-- ==== Sys2Proof/Word.lean ====
section
/-! DEFINITION. The word types of the SCD30 protocol block (spec 00_scope.md R6, 10_state.md R20, 20_memory.md R50).
Only the types stand here: every bit-field helper stands in Machine/Operands.lean or Decode.lean. -/

namespace Sys2Proof

/-- One byte on the wire, and the checksum accumulator (R59, R100). -/
abbrev Byte := BitVec 8

/-- A 16-bit device address, command, argument or data word (R6: CMD_W, ARG_W). -/
abbrev Half := BitVec 16

/-- One host register, moved whole by every host access (R6: HOST_W; R50). -/
abbrev Word := BitVec 32

end Sys2Proof
end

