-- ==== Sys2Proof/Config.lean ====
section
/-! DEFINITION. The parameters of 00_scope.md R6. A value the spec calls "fixed" or "host" is a definition with its value; a
value it calls OPEN is an `opaque` constant without a body, so that no proof can see a value of it (92_eei_decisions.md D11 to
D13: "claims should quantify over the parameter"). -/

namespace Sys2Proof.Config

/-- CRC_POLY (R6, R100). -/
def crcPoly : Byte := 0x31#8

/-- CRC_INIT: the accumulator before the first byte (R6, R101), and what the operation CRC_INIT stores (R104). -/
def crcInit : Byte := 0xFF#8

/-- REG_RESP_LEN: the length of a READ_REG response (R6, R77). -/
def regRespLen : Nat := 2

/-- PAYLOAD_LEN: the length of the measurement response (R6, R78). -/
def payloadLen : Nat := 18

/-- MEAS_READ_ADDR, the 16-bit address READ_MEAS writes: OPEN (R6, D12, I1; log entry 1). The default 0x0300 is a default for
test vectors only and is not used. -/
opaque measReadAddr : Half

/-- SETTLE_COUNT, the number of timebase ticks of one settle interval: OPEN (R6, R252, I17; log entry 2). -/
opaque settleCount : Nat

/-- DEV_ADDR, the sensor's 7-bit bus address: OPEN (R6, D13, I2; log entry 3). It belongs to the transport; nothing in the
block reads it. -/
opaque devAddr : BitVec 7

/-- T_SETTLE_READ, 4 ms: the least time between the end of a write phase and the start of its read phase. An obligation on the
hardware that "no rule of the model depends on" (R250); no definition of the machine reads it. -/
def tSettleReadMs : Nat := 4

/-- T_SETTLE_RESET, 30 ms: what the host waits after a soft-reset command (R192, R256). -/
def tSettleResetMs : Nat := 30

/-- CAL_MIN and CAL_MAX, both inclusive (R194). -/
def calMin : Int := 400
def calMax : Int := 2000

/-- INT_MIN and INT_MAX, both inclusive (R198). -/
def intervalMin : Int := 2
def intervalMax : Int := 1800

/-- ADDR_DATA_READY (R191). -/
def addrDataReady : Half := 0x0202#16

/-- CMD_SOFT_RESET (R192). -/
def cmdSoftReset : Half := 0xD304#16

/-- ADDR_CAL_REF: the get address, and by D26 the set command (R193, R194). -/
def addrCalRef : Half := 0x5204#16

/-- ADDR_ASC (R195, R196). -/
def addrAsc : Half := 0x5306#16

/-- ADDR_INTERVAL (R197, R198). -/
def addrInterval : Half := 0x4600#16

end Sys2Proof.Config
end

