-- ==== Sys2Proof/Syntax.lean ====
section
/-! DEFINITION. The operations of the block (one constructor of `Instr` per row of spec/opcode_table.json), the host registers,
the host's accesses to them, and the lines of a host program (30_encoding.md R80 and R81). -/

namespace Sys2Proof

/-- The block operations of 30_encoding.md R71. An operand has the width of its field of OPWORD (R70), so no operand is out of
range. SEND_CMD_ARG's argument is no operand: it comes from the register ARG (R71). -/
inductive Instr where
  /-- CRC_INIT (R104) -/
  | crcInit
  /-- CRC_FEED b (R105) -/
  | crcFeed (b : Byte)
  /-- OPEN (R121) -/
  | openSession
  /-- READ_REG w (R122) -/
  | readReg (w : Half)
  /-- SEND_CMD w (R123) -/
  | sendCmd (w : Half)
  /-- SEND_CMD_ARG w (R124) -/
  | sendCmdArg (w : Half)
  /-- READ_MEAS (R150) -/
  | readMeas
deriving DecidableEq, Repr

/-- The 16 host registers by name, in the order of their indices 0 to 15 (10_state.md R20). -/
inductive HostReg where
  | opword | arg | status | rdata | crc | txcount | co2 | temp | rh
  | payload0 | payload1 | payload2 | payload3 | payload4 | reserved14 | reserved15
deriving DecidableEq, Repr

/-- One host access: a read or a write of one host register, all 32 bits (20_memory.md R50). -/
inductive HostAccess where
  | read  (r : HostReg)
  | write (r : HostReg) (v : Word)
deriving DecidableEq, Repr

/-- One line of a host program (R80) or pseudo-instruction (R81). Operands are plain numbers, as the programmer writes them;
WellFormed.lean checks their ranges. `WAIT` makes no fixed number of accesses and is `Machine.ProgLine.wait`. -/
inductive AsmLine where
  | crcInit
  | crcFeed (b : Nat)
  | openSession
  | readReg (w : Nat)
  | sendCmd (w : Nat)
  | sendCmdArg (w : Nat)
  | readMeas
  /-- `WR reg, v` -/
  | wr (r : HostReg) (v : Nat)
  /-- `RD reg` -/
  | rd (r : HostReg)
  /-- pseudo `SEND_CMD_ARG w, a` -/
  | sendCmdWithArg (w a : Nat)
  /-- pseudo `CRC8 b0, b1, ..., bn` -/
  | crc8 (bytes : List Nat)
  /-- pseudo `CLR_OVR` -/
  | clrOvr
deriving DecidableEq, Repr

end Sys2Proof
end

