-- ==== Sys2Proof/WellFormed.lean ====
section
/-! DEFINITION. Well-formedness. An operation (`Instr`) carries its operands at the width of their fields, so every term of it
is well-formed. A line of a host program carries numbers, and "a value outside a field's range is an assembly error. The
assembler never truncates it" (30_encoding.md R80). -/

namespace Sys2Proof

/-- Every operand of an operation has its field's width (R70), so nothing is left to check. -/
def Instr.wf : Instr → Bool
  | .crcInit => true
  | .crcFeed _ => true
  | .openSession => true
  | .readReg _ => true
  | .sendCmd _ => true
  | .sendCmdArg _ => true
  | .readMeas => true

/-- A byte operand, 0 to 255 (R80: CRC_FEED). -/
def byteOperandOk (b : Nat) : Bool := decide (b < 256)

/-- An address, command or argument operand, 0 to 0xFFFF (R80). -/
def halfOperandOk (w : Nat) : Bool := decide (w < 65536)

/-- A value written to a host register, 32 bits (R80: WR). -/
def wordOperandOk (v : Nat) : Bool := decide (v < 4294967296)

/-- The range checks of R80 on a line of a host program. `CRC8` has at least one byte: its form is `CRC8 b0, b1, ..., bn`
(R81). DESIGN CHOICE (log entry 22): R81 gives no range for `a` of the pseudo `SEND_CMD_ARG w, a`; the model takes that of its
expansion `WR ARG, a`, 32 bits, of which ARG keeps the low 16. -/
def AsmLine.wf : AsmLine → Bool
  | .crcInit => true
  | .crcFeed b => byteOperandOk b
  | .openSession => true
  | .readReg w => halfOperandOk w
  | .sendCmd w => halfOperandOk w
  | .sendCmdArg w => halfOperandOk w
  | .readMeas => true
  | .wr _ v => wordOperandOk v
  | .rd _ => true
  | .sendCmdWithArg w a => halfOperandOk w && wordOperandOk a
  | .crc8 bytes => !bytes.isEmpty && bytes.all byteOperandOk
  | .clrOvr => true

end Sys2Proof
end

