-- ==== Sys2Proof/Decode.lean ====
section
/-! DEFINITION. The operation word (30_encoding.md R70 to R74): the decoder, total on all 2^32 words and rejecting by name; the
encoder; the register indices; and the assembler's expansion of a host program's lines into host accesses (R80, R81). -/

namespace Sys2Proof

/-! ### Fields of an operation word (R70) -/

/-- W = bits 31:16. -/
def fieldW (v : Word) : Half := v.extractLsb' 16 16

/-- B = bits 15:8. -/
def fieldB (v : Word) : Byte := v.extractLsb' 8 8

/-- Z = bits 7:4. -/
def fieldZ (v : Word) : BitVec 4 := v.extractLsb' 4 4

/-- OP = bits 3:0. -/
def fieldOp (v : Word) : BitVec 4 := v.extractLsb' 0 4

/-! ### Decoding (R71 to R74) -/

/-- One row of the opcode table: the mnemonic as the table spells it, the mask, the match value, and the operation a matching
word stands for. -/
structure OpRow where
  mnemonic : String
  mask     : Word
  pattern  : Word
  build    : Word → Instr

/-- The table of R71, in its order. -/
def opRows : List OpRow := [
  ⟨"CRC_INIT",     0xFFFFFFFF#32, 0x00000001#32, fun _ => .crcInit⟩,
  ⟨"CRC_FEED",     0xFFFF00FF#32, 0x00000002#32, fun v => .crcFeed (fieldB v)⟩,
  ⟨"OPEN",         0xFFFFFFFF#32, 0x00000003#32, fun _ => .openSession⟩,
  ⟨"READ_REG",     0x0000FFFF#32, 0x00000004#32, fun v => .readReg (fieldW v)⟩,
  ⟨"SEND_CMD",     0x0000FFFF#32, 0x00000005#32, fun v => .sendCmd (fieldW v)⟩,
  ⟨"SEND_CMD_ARG", 0x0000FFFF#32, 0x00000006#32, fun v => .sendCmdArg (fieldW v)⟩,
  ⟨"READ_MEAS",    0xFFFFFFFF#32, 0x00000007#32, fun _ => .readMeas⟩]

/-- "A word v selects a row when (v & mask) = match" (R71). -/
def OpRow.selects (r : OpRow) (v : Word) : Bool := (v &&& r.mask) == r.pattern

/-- decode of R73: the first row the word selects, in the table's order; `none` is the spec's ILLEGAL. -/
def decodeRows : List OpRow → Word → Option Instr
  | [], _ => none
  | r :: rs, v => if r.selects v then some (r.build v) else decodeRows rs v

/-- decode of R73 over the table of R71. -/
def decodeWord (v : Word) : Option Instr := decodeRows opRows v

/-- Why a word is illegal (R74): the names by which the decoder rejects. -/
inductive IllegalReason where
  /-- OP = 0x0 or OP = 0x8 to 0xF -/
  | unassignedOp
  /-- an assigned OP with Z ≠ 0 -/
  | nonzeroZ
  /-- an assigned OP other than CRC_FEED with B ≠ 0 -/
  | nonzeroB
  /-- CRC_INIT, CRC_FEED, OPEN or READ_MEAS with W ≠ 0 -/
  | nonzeroW
deriving DecidableEq, Repr

/-- The first of R74's reasons that holds of a word; `none` for a word that has none of them. It is written from R72 and R74
and not from the table, so that the two can be compared. -/
def illegalReason (v : Word) : Option IllegalReason :=
  if fieldOp v = 0#4 ∨ 8#4 ≤ fieldOp v then some .unassignedOp
  else if fieldZ v ≠ 0#4 then some .nonzeroZ
  else if fieldOp v ≠ 2#4 ∧ fieldB v ≠ 0#8 then some .nonzeroB
  else if (fieldOp v = 1#4 ∨ fieldOp v = 2#4 ∨ fieldOp v = 3#4 ∨ fieldOp v = 7#4) ∧ fieldW v ≠ 0#16 then some .nonzeroW
  else none

/-- The decoder with its rejection by name. A word that the table does not select and that has none of R74's reasons would
be `unassignedOp`; there is none. -/
def decode (v : Word) : Except IllegalReason Instr :=
  match decodeWord v with
  | some i => .ok i
  | none => .error ((illegalReason v).getD .unassignedOp)

/-- The host's view of the decoder: `w` holds the bits of an operation word, bit 0 its least significant. Every operation word
has 32 bits (R82); the bits at and above `nbits` are 0. -/
def decodeTableWord (nbits w : Nat) : Option Instr :=
  if nbits ≤ 32 ∧ w < 2 ^ nbits then decodeWord (BitVec.ofNat 32 w) else none

/-! ### Encoding (R70, R71) -/

/-- The operation word with the fields W, B, Z = 0 and OP (R70). -/
def opwordOf (w : Half) (b : Byte) (op : BitVec 4) : Word :=
  (w.setWidth 32 <<< 16) ||| (b.setWidth 32 <<< 8) ||| op.setWidth 32

/-- The operation word of an operation, from the encoding column of R80 and the fields of R70 and R71. -/
def encode : Instr → Word
  | .crcInit => opwordOf 0#16 0#8 0x1#4
  | .crcFeed b => opwordOf 0#16 b 0x2#4
  | .openSession => opwordOf 0#16 0#8 0x3#4
  | .readReg w => opwordOf w 0#8 0x4#4
  | .sendCmd w => opwordOf w 0#8 0x5#4
  | .sendCmdArg w => opwordOf w 0#8 0x6#4
  | .readMeas => opwordOf 0#16 0#8 0x7#4

/-! ### Host register indices (10_state.md R20) -/

/-- The index of a host register (R20). -/
def HostReg.index : HostReg → Fin 16
  | .opword => 0 | .arg => 1 | .status => 2 | .rdata => 3 | .crc => 4 | .txcount => 5
  | .co2 => 6 | .temp => 7 | .rh => 8
  | .payload0 => 9 | .payload1 => 10 | .payload2 => 11 | .payload3 => 12 | .payload4 => 13
  | .reserved14 => 14 | .reserved15 => 15

/-- The host register at a 4-bit index: every index has one (R20, R50). -/
def HostReg.ofIndex (i : Fin 16) : HostReg :=
  if i = 0 then .opword else if i = 1 then .arg else if i = 2 then .status else if i = 3 then .rdata
  else if i = 4 then .crc else if i = 5 then .txcount else if i = 6 then .co2 else if i = 7 then .temp
  else if i = 8 then .rh else if i = 9 then .payload0 else if i = 10 then .payload1
  else if i = 11 then .payload2 else if i = 12 then .payload3 else if i = 13 then .payload4
  else if i = 14 then .reserved14 else .reserved15

/-! ### The assembler (R80, R81) -/

/-- The launch of an operation: a host write of its word to OPWORD (R80). -/
def launchAccess (i : Instr) : HostAccess := .write .opword (encode i)

/-- The host accesses a well-formed line stands for (R80, R81). -/
def AsmLine.expand : AsmLine → List HostAccess
  | .crcInit => [launchAccess .crcInit]
  | .crcFeed b => [launchAccess (.crcFeed (BitVec.ofNat 8 b))]
  | .openSession => [launchAccess .openSession]
  | .readReg w => [launchAccess (.readReg (BitVec.ofNat 16 w))]
  | .sendCmd w => [launchAccess (.sendCmd (BitVec.ofNat 16 w))]
  | .sendCmdArg w => [launchAccess (.sendCmdArg (BitVec.ofNat 16 w))]
  | .readMeas => [launchAccess .readMeas]
  | .wr r v => [.write r (BitVec.ofNat 32 v)]
  | .rd r => [.read r]
  | .sendCmdWithArg w a => [.write .arg (BitVec.ofNat 32 a), launchAccess (.sendCmdArg (BitVec.ofNat 16 w))]
  | .crc8 bytes => launchAccess .crcInit :: bytes.map (fun b => launchAccess (.crcFeed (BitVec.ofNat 8 b)))
  | .clrOvr => [.write .status 0x00000004#32]

/-- The assembler: a line with a value out of range is an error, never truncated (R80). -/
def AsmLine.assemble (l : AsmLine) : Option (List HostAccess) := if l.wf then some l.expand else none

end Sys2Proof
end

