-- ==== Sys2Proof/Machine/State.lean ====
section
/-! DEFINITION. The state of the SCD30 protocol block as plain data (10_state.md R20 to R35), the inputs of the agents around it
(00_scope.md R5), the bus event history (20_memory.md R58), the reasons a step can stop, and the state after reset (R240). -/

namespace Sys2Proof.Machine

/-- The session (R32). STATUS.SESSION always equals its code, so it is stored once. -/
inductive Session where
  | closed | opened | failed
deriving DecidableEq, Repr

/-- The sequencer's control state (R33). STATUS.BUSY is 1 exactly when it is not `idle`, so BUSY is not stored. -/
inductive Phase where
  | idle | opening | tx | settle | rx
deriving DecidableEq, Repr

/-- The values of cur_op (R31): the operations that use the bus. -/
inductive BusOp where
  | openSession | readReg | sendCmd | sendCmdArg | readMeas
deriving DecidableEq, Repr

/-- The error codes of 60_exceptions.md R210. Codes 6 to 15 are never produced and have no constructor (I16). -/
inductive ErrCode where
  | none | ioError | corruptPayload | openError | notOpen | illegalOp
deriving DecidableEq, Repr

/-- A request of the block to the transport (R54 to R56). -/
inductive BusRequest where
  | busOpen
  | busWrite (frame : List Byte)
  | busRead (n : Nat)
deriving DecidableEq, Repr

/-- An answer of the transport (R54 to R56): `ok` to BusOpen, `okCount c` to BusWrite, `okBytes bs` to BusRead, `err` to any. -/
inductive Answer where
  | ok
  | okCount (c : Nat)
  | okBytes (bytes : List Byte)
  | err
deriving DecidableEq, Repr

/-- How a bus request ended: with the transport's answer, or abandoned by a reset after some of its bytes had moved (R241). -/
inductive EventEnd where
  | answered (a : Answer)
  | abandoned (bytesMoved : Nat)
deriving DecidableEq, Repr

/-- One event of the bus history (R58): the kind with a write's frame or a read's length, and the answer. -/
structure BusEvent where
  request : BusRequest
  ending  : EventEnd
deriving DecidableEq, Repr

/-- What the agents around the block can do to it (R5), one of them a step: the host accesses one register (R50), the transport
answers the outstanding request (R54 to R56), the timebase ticks (R252) or signals the end of the settle interval (R250), or
the reset input is asserted (R240). `reset cut` carries the draw of R241: how far the bus had got with the transaction that
the reset abandons. -/
inductive Input where
  | host (a : HostAccess)
  | transport (a : Answer)
  | tick
  | settleElapsed
  | reset (cut : Nat)
deriving DecidableEq, Repr

/-- The state. Every register has one home; what R31 says is "mirrored" is computed from it. -/
structure State where
  /-- OPWORD, index 0 (R21) -/
  opword : Word
  /-- ARG.VALUE, index 1 bits 15:0; bits 31:16 read 0 and are not stored (R22) -/
  arg : Half
  /-- STATUS.DONE (R23) -/
  done : Bool
  /-- STATUS.OVR (R23, R24) -/
  ovr : Bool
  /-- STATUS.RDATA_VALID (R23) -/
  rdataValid : Bool
  /-- STATUS.MEAS_VALID (R23) -/
  measValid : Bool
  /-- STATUS.IO_PHASE: true = the read phase failed (R23) -/
  ioPhase : Bool
  /-- STATUS.ERR (R23, R210) -/
  err : ErrCode
  /-- STATUS.TRIP_FAIL (R23, R151) -/
  tripFail : BitVec 6
  /-- RDATA, index 3 bits 15:0 (R25) -/
  rdata : Half
  /-- CRC, index 4 bits 7:0: the host accumulator (R26) -/
  crc : Byte
  /-- TXCOUNT.COUNT, index 5 bits 7:0 (R27) -/
  txCount : Byte
  /-- TXCOUNT.LEN, index 5 bits 15:8 (R27) -/
  txLen : Byte
  /-- CO2, index 6 (R28) -/
  co2 : Word
  /-- TEMP, index 7 (R28) -/
  temp : Word
  /-- RH, index 8 (R28) -/
  rh : Word
  /-- PAYLOAD0, index 9 (R29) -/
  payload0 : Word
  /-- PAYLOAD1, index 10 (R29) -/
  payload1 : Word
  /-- PAYLOAD2, index 11 (R29) -/
  payload2 : Word
  /-- PAYLOAD3, index 12 (R29) -/
  payload3 : Word
  /-- PAYLOAD4 bits 31:16, index 13; its bits 15:0 "always read 0" and are not stored (R29) -/
  payload4 : Half
  /-- session (R31, R32), and with it STATUS.SESSION -/
  session : Session
  /-- phase (R31, R33), and with it STATUS.BUSY -/
  phase : Phase
  /-- cur_op: the operation in flight (R31) -/
  curOp : BusOp
  /-- lat_w (R31, R34) -/
  latW : Half
  /-- lat_a (R31, R34) -/
  latA : Half
  /-- txbuf: the frame being written (R31) -/
  txbuf : List Byte
  /-- rxlen: the length of the read phase, 0 if there is none (R31) -/
  rxlen : Nat
  /-- the settle timer: the ticks left, or `none` when it is not running (R31, R252) -/
  settleTimer : Option Nat
  /-- the bus event history, oldest first (R58) -/
  history : List BusEvent
  /-- the model's own record of what each host-read input returned, oldest first (log entries 10 and 23) -/
  reads : List (HostReg × Word)
  /-- the model's own field: what the agents do next, in order (log entry 4) -/
  inputs : List Input
deriving DecidableEq, Repr

/-- The reasons a step can stop. The block itself has no traps (R210, R219): every one of these says that an agent around the
block gave an answer that the spec does not let it give, or that a state was met that no run reaches. -/
inductive Fault where
  /-- The transport answers the outstanding request with a count above the frame's length or with a wrong number of bytes: the
  shapes of R55 and R56 are the one law over its answers (R5), and no rule says what the block does without them (log entry
  5). Raised by `txStep` and `rxStep`. Safe: the model stops where the spec has no step. -/
  | answerShape
  /-- A read was answered while cur_op is an operation without a read phase. No run from reset gets there (log entry 14). Raised
  by `rxOkStep`. Safe. -/
  | controlMismatch
deriving DecidableEq, Repr

/-- The reasons an operation is refused. -/
inductive Refusal where
  /-- The operation with this mnemonic has no meaning in the model yet. Raised by `exec`'s refused arms only; there is none
  now. Safe. -/
  | notModelled (mnemonic : String)
deriving DecidableEq, Repr

/-- What a step of this machine answers. -/
abbrev Result := Host.Outcome State Fault Refusal

/-- The state right after reset (R20, R31, R240). The spec leaves cur_op, lat_w, lat_a, txbuf and rxlen "unspecified (rewritten
at every launch before use)"; the values here are the model's (log entry 6). The three last fields are no registers: nothing
has happened on the bus, nothing was read, and no agent has been given anything to do. -/
def State.reset : State where
  opword := 0
  arg := 0
  done := false
  ovr := false
  rdataValid := false
  measValid := false
  ioPhase := false
  err := .none
  tripFail := 0
  rdata := 0
  crc := 0xFF#8
  txCount := 0
  txLen := 0
  co2 := 0
  temp := 0
  rh := 0
  payload0 := 0
  payload1 := 0
  payload2 := 0
  payload3 := 0
  payload4 := 0
  session := .closed
  phase := .idle
  curOp := .openSession
  latW := 0
  latA := 0
  txbuf := [0#8, 0#8]
  rxlen := 0
  settleTimer := none
  history := []
  reads := []
  inputs := []

end Sys2Proof.Machine
end

