-- ==== Sys2Proof/Machine/Flags.lean ====
section
/-! DEFINITION. The fields of STATUS (10_state.md R23): the codes of the session and of the errors, the two fields that mirror
hidden state, and the register as a word. -/

namespace Sys2Proof.Machine

/-- CLOSED = 0, OPEN = 1, FAILED = 2; the value 3 is never produced (R23, R32). -/
def Session.code : Session → BitVec 2
  | .closed => 0#2
  | .opened => 1#2
  | .failed => 2#2

/-- The code numbers of R210. -/
def ErrCode.code : ErrCode → BitVec 4
  | .none => 0#4
  | .ioError => 1#4
  | .corruptPayload => 2#4
  | .openError => 3#4
  | .notOpen => 4#4
  | .illegalOp => 5#4

/-- STATUS.BUSY: 1 exactly when phase is not IDLE (R33). -/
def State.busy (s : State) : Bool :=
  match s.phase with
  | .idle => false
  | .opening => true
  | .tx => true
  | .settle => true
  | .rx => true

/-- A field of STATUS at its place: bit `n` upwards. -/
def statusField {w : Nat} (v : BitVec w) (n : Nat) : Word := v.setWidth 32 <<< n

/-- STATUS as the host reads it (R23): each field at its bits, and reserved bits 0. -/
def State.statusWord (s : State) : Word :=
  statusField (BitVec.ofBool s.busy) 0 ||| statusField (BitVec.ofBool s.done) 1 ||| statusField (BitVec.ofBool s.ovr) 2 |||
    statusField (BitVec.ofBool s.rdataValid) 3 ||| statusField (BitVec.ofBool s.measValid) 4 |||
    statusField (BitVec.ofBool s.ioPhase) 5 ||| statusField s.session.code 6 ||| statusField s.err.code 8 |||
    statusField s.tripFail 16

end Sys2Proof.Machine
end

