-- ==== Sys2Proof/Machine/Operands.lean ====
section
/-! DEFINITION. Operand forms: the bytes of a 16-bit value (20_memory.md R59), the wire frames (30_encoding.md R75, R76), the
payload's windows, data words and channel patterns (42_payload_assembler.md R151, 43_float_decoder.md R170, R171), and the
packing of the payload into host registers (10_state.md R29). -/

namespace Sys2Proof.Machine

/-- `w[15:8]`, the byte of a 16-bit value that goes on the wire first (R59). -/
def hiByte (w : Half) : Byte := w.extractLsb' 8 8

/-- `w[7:0]`. -/
def loByte (w : Half) : Byte := w.extractLsb' 0 8

/-- `{b0, b1}`: two bytes read big-endian (R59). -/
def halfOf (b0 b1 : Byte) : Half := (b0.setWidth 16 <<< 8) ||| b1.setWidth 16

/-- `{h0, h1}`: two 16-bit values, the first most significant. -/
def wordOf (h0 h1 : Half) : Word := (h0.setWidth 32 <<< 16) ||| h1.setWidth 32

/-- `v[15:0]`, what a write to ARG stores (R22, R52). -/
def lowHalf (v : Word) : Half := v.extractLsb' 0 16

/-- The command frame F2 (R75). -/
def frameF2 (w : Half) : List Byte := [hiByte w, loByte w]

/-- The argument frame F5 (R76): the checksum covers the two argument bytes only. -/
def frameF5 (w a : Half) : List Byte := [hiByte w, loByte w, hiByte a, loByte a, crc8 [hiByte a, loByte a]]

/-- `b[k]` of a byte sequence (00_scope.md section 4). -/
def byteAt (b : List Byte) (k : Nat) : Byte := b.getD k 0#8

/-- Whether triplet `k` of the payload passes its check (R107, R151: window k is bytes 3k, 3k+1, 3k+2). -/
def windowOk (p : List Byte) (k : Nat) : Bool :=
  tripletOk (byteAt p (3 * k)) (byteAt p (3 * k + 1)) (byteAt p (3 * k + 2))

/-- 2^k as a 6-bit mask when triplet `k` fails its check, else 0 (R151). -/
def failBit (p : List Byte) (k : Nat) : BitVec 6 := if windowOk p k then 0#6 else 1#6 <<< k

/-- fail_mask of R151: bit k is 1 when triplet k fails. All six windows are always checked. -/
def failMask (p : List Byte) : BitVec 6 :=
  failBit p 0 ||| failBit p 1 ||| failBit p 2 ||| failBit p 3 ||| failBit p 4 ||| failBit p 5

/-- D(p, k) of R170: the data word of triplet k; its checksum byte is dropped. -/
def dataWord (p : List Byte) (k : Nat) : Half := halfOf (byteAt p (3 * k)) (byteAt p (3 * k + 1))

/-- pattern(p, c) of R171: channel c is data words 2c and 2c + 1, the first most significant. -/
def pattern (p : List Byte) (c : Nat) : Word := wordOf (dataWord p (2 * c)) (dataWord p (2 * c + 1))

/-- Four payload bytes from byte `k` on, packed big-endian into one register (R29). -/
def packWord (p : List Byte) (k : Nat) : Word :=
  wordOf (halfOf (byteAt p k) (byteAt p (k + 1))) (halfOf (byteAt p (k + 2)) (byteAt p (k + 3)))

/-- The upper half of PAYLOAD4: bytes 16 and 17 (R29). -/
def packLast (p : List Byte) : Half := halfOf (byteAt p 16) (byteAt p 17)

end Sys2Proof.Machine
end

