-- ==== Sys2Proof/Machine/Ops.lean ====
section
/-! DEFINITION. The shared operations: reading a host register (20_memory.md R51), the accepted and the dropped launch, the start
of a bus operation and the end of an operation (10_state.md R36 to R40), the recording of a bus event (R58), and the block's
reset (70_reset_and_hazards.md R240, R241). -/

namespace Sys2Proof.Machine

/-! ### Host reads -/

/-- The value a host read returns (R51): every register whole, reserved bits and reserved indices 0, 16-bit and 8-bit values
zero-extended in the low bits (R60). -/
def State.hostValue (s : State) : HostReg → Word
  | .opword => s.opword
  | .arg => s.arg.setWidth 32
  | .status => s.statusWord
  | .rdata => s.rdata.setWidth 32
  | .crc => s.crc.setWidth 32
  | .txcount => (s.txLen.setWidth 32 <<< 8) ||| s.txCount.setWidth 32
  | .co2 => s.co2
  | .temp => s.temp
  | .rh => s.rh
  | .payload0 => s.payload0
  | .payload1 => s.payload1
  | .payload2 => s.payload2
  | .payload3 => s.payload3
  | .payload4 => s.payload4.setWidth 32 <<< 16
  | .reserved14 => 0
  | .reserved15 => 0

/-- A host read: the value goes to the host, which the model records; the block is unchanged (R51: "No read has a side
effect"). -/
def State.hostRead (r : HostReg) (s : State) : State := { s with reads := s.reads ++ [(r, s.hostValue r)] }

/-! ### The operation life cycle -/

/-- complete(e) of R40. This is also the block's whole error entry (R219): it saves nothing, switches no mode and transfers no
control. BUSY becomes 0 because phase becomes IDLE. -/
def State.complete (e : ErrCode) (s : State) : State :=
  { s with err := e, done := true, phase := .idle, settleTimer := none }

/-- A dropped launch (R36): only the sticky OVR changes. -/
def State.dropLaunch (s : State) : State := { s with ovr := true }

/-- What an accepted launch of the word `v` stores and clears (R37) before the operation is dispatched. -/
def State.acceptLaunch (v : Word) (s : State) : State :=
  { s with opword := v, done := false, err := .none, ioPhase := false, tripFail := 0 }

/-- A launch of the word `v`: dropped while BUSY = 1 (R36), else accepted (R37) and then dispatched by `body` (R38) in the same
step. -/
def launch (v : Word) (body : State → Result) (s : State) : Result :=
  if s.busy then .next s.dropLaunch else body (s.acceptLaunch v)

/-- The session checks of R38 and R217 for the bus operations other than OPEN. -/
def busGate (start : State → State) (s : State) : Result :=
  match s.session with
  | .failed => .next (s.complete .openError)
  | .closed => .next (s.complete .notOpen)
  | .opened => .next (start s)

/-- What start(op) does for every bus operation (R34, R39): BUSY becomes 1 with the phase, cur_op is set, and W and ARG are
latched. -/
def State.startOp (op : BusOp) (p : Phase) (s : State) : State :=
  { s with curOp := op, latW := fieldW s.opword, latA := s.arg, phase := p }

/-- The start of an operation with a write phase (R39): the frame, the length of the read phase, and phase TX. -/
def State.startTx (op : BusOp) (frame : List Byte) (n : Nat) (s : State) : State :=
  { s.startOp op .tx with txbuf := frame, rxlen := n }

/-! ### Inputs -/

/-- The state with `xs` as what the agents do next. -/
def State.withInputs (s : State) (xs : List Input) : State := { s with inputs := xs }

/-! ### Bus events -/

/-- The request the block is waiting on, if any (R33: OPENING waits for BusOpen, TX for BusWrite(txbuf), RX for
BusRead(rxlen)). -/
def State.request (s : State) : Option BusRequest :=
  match s.phase with
  | .idle => none
  | .opening => some .busOpen
  | .tx => some (.busWrite s.txbuf)
  | .settle => none
  | .rx => some (.busRead s.rxlen)

/-- Whether an answer is an answer to the request: of the kind that R54, R55 or R56 gives for it. -/
def Answer.answers : BusRequest → Answer → Bool
  | .busOpen, .ok => true
  | .busWrite _, .okCount _ => true
  | .busRead _, .okBytes _ => true
  | _, .err => true
  | _, _ => false

/-- The number of bytes a request moves. -/
def BusRequest.size : BusRequest → Nat
  | .busOpen => 0
  | .busWrite f => f.length
  | .busRead n => n

/-- One event more in the bus history (R58). -/
def State.record (e : BusEvent) (s : State) : State := { s with history := s.history ++ [e] }

/-! ### Reset -/

/-- The bus events a reset leaves behind (R241): a transaction in progress is abandoned after any number of its bytes. The draw
`cut` says after how many; a draw beyond its length stands for all of them. -/
def State.abandonedEvents (cut : Nat) (s : State) : List BusEvent :=
  match s.request with
  | none => []
  | some q => [⟨q, .abandoned (min cut q.size)⟩]

/-- The reset input (R240, R241): every register and every hidden field at its reset value. The records of what has happened and
the other agents' inputs are no state of the block and stay. -/
def State.resetBlock (cut : Nat) (s : State) : State :=
  { State.reset with history := s.history ++ s.abandonedEvents cut, reads := s.reads, inputs := s.inputs }

end Sys2Proof.Machine
end

