-- ==== Sys2Proof/Machine/Frame.lean ====
section
/-! DEFINITION. The register-protocol frame sequencer (41_frame_protocol.md R120 to R126): the launches of OPEN, READ_REG,
SEND_CMD and SEND_CMD_ARG, the block steps of phases OPENING and TX, and READ_REG's read phase; and the classifier of frames
seen on the bus. -/

namespace Sys2Proof.Machine

/-! ### OPEN (R121) -/

/-- OPEN after an accepted launch (R38): fatal after a failure, no traffic when the session is open, else a request BusOpen(). -/
def openDispatch (s : State) : Result :=
  match s.session with
  | .failed => .next (s.complete .openError)
  | .opened => .next (s.complete .none)
  | .closed => .next (s.startOp .openSession .opening)

/-- OPEN (R121). -/
def execOpenSession (s : State) : Result := launch (encode .openSession) openDispatch s

/-- The OPENING step, answered OK. -/
def openingOk (s : State) : State :=
  { s.record ⟨.busOpen, .answered .ok⟩ with session := .opened }.complete .none

/-- The OPENING step, answered ERR: the session fails for good (R213). -/
def openingErr (s : State) : State :=
  { s.record ⟨.busOpen, .answered .err⟩ with session := .failed }.complete .openError

/-! ### The launches of READ_REG, SEND_CMD and SEND_CMD_ARG (R39, R122 to R124) -/

/-- start(READ_REG): frame F2 of the latched address, then a read of 2 bytes. -/
def startReadReg (s : State) : State := s.startTx .readReg (frameF2 (fieldW s.opword)) Config.regRespLen

/-- READ_REG w (R122). -/
def execReadReg (w : Half) (s : State) : Result := launch (encode (.readReg w)) (busGate startReadReg) s

/-- start(SEND_CMD): frame F2 of the latched command, no read phase. -/
def startSendCmd (s : State) : State := s.startTx .sendCmd (frameF2 (fieldW s.opword)) 0

/-- SEND_CMD w (R123). -/
def execSendCmd (w : Half) (s : State) : Result := launch (encode (.sendCmd w)) (busGate startSendCmd) s

/-- start(SEND_CMD_ARG): frame F5 of the latched command and of ARG.VALUE at the launch, no read phase. -/
def startSendCmdArg (s : State) : State := s.startTx .sendCmdArg (frameF5 (fieldW s.opword) s.arg) 0

/-- SEND_CMD_ARG w (R124). -/
def execSendCmdArg (w : Half) (s : State) : Result := launch (encode (.sendCmdArg w)) (busGate startSendCmdArg) s

/-! ### The common write phase (R120) -/

/-- What every TX step does first: TXCOUNT.LEN and TXCOUNT.COUNT, and the bus event of R58. `c` is the reported count, 0 for
ERR. -/
def txReport (a : Answer) (c : Nat) (s : State) : State :=
  { s.record ⟨.busWrite s.txbuf, .answered a⟩ with
    txLen := BitVec.ofNat 8 s.txbuf.length, txCount := BitVec.ofNat 8 c }

/-- The TX step, answered ERR: IO_ERROR with IO_PHASE = 0, whatever the operation. -/
def txErr (s : State) : State := { txReport .err 0 s with ioPhase := false }.complete .ioError

/-- TX to SETTLE: the timer is loaded with SETTLE_COUNT (R250, R252). -/
def enterSettle (s : State) : State := { s with phase := .settle, settleTimer := some Config.settleCount }

/-- The TX step, answered OK(c), a success whatever `c` is: "the block goes to SETTLE only when rxlen > 0 and the write
succeeded. Otherwise the TX step completes the operation" (R41). -/
def txOk (c : Nat) (s : State) : State :=
  if 0 < s.rxlen then enterSettle (txReport (.okCount c) c s) else (txReport (.okCount c) c s).complete .none

/-! ### The settle interval (R250 to R252) -/

/-- The step that leaves SETTLE. The timer has run out. -/
def leaveSettle (s : State) : State := { s with phase := .rx, settleTimer := none }

/-- One tick of the timebase: it counts in SETTLE only, and the tick that brings the count to 0 leaves SETTLE (R252). -/
def tickStep (s : State) : State :=
  match s.phase, s.settleTimer with
  | .settle, some n => if n ≤ 1 then leaveSettle s else { s with settleTimer := some (n - 1) }
  | _, _ => s

/-! ### Read phases -/

/-- The bus event of a read and its answer (R58). -/
def rxReport (a : Answer) (s : State) : State := s.record ⟨.busRead s.rxlen, .answered a⟩

/-- The RX step, answered ERR: IO_ERROR with IO_PHASE = 1 (R122, R150). -/
def rxErr (s : State) : State := { rxReport .err s with ioPhase := true }.complete .ioError

/-- The RX step of READ_REG, answered OK([b0, b1]): no checksum is read or checked (R122, R125). -/
def readRegRx (bytes : List Byte) (s : State) : State :=
  { rxReport (.okBytes bytes) s with
    rdata := halfOf (byteAt bytes 0) (byteAt bytes 1), rdataValid := true }.complete .none

/-! ### Frames seen on the bus (R126) -/

/-- What parse_frame answers (R126). -/
inductive ParsedFrame where
  | cmd (w : Half)
  | cmdArg (w a : Half)
  | badChecksum
  | badLength
deriving DecidableEq, Repr

/-- parse_frame of R126. The block never runs it; claims about write events do. -/
def parseFrame (f : List Byte) : ParsedFrame :=
  match f with
  | [f0, f1] => .cmd (halfOf f0 f1)
  | [f0, f1, f2, f3, f4] => if crc8 [f2, f3] = f4 then .cmdArg (halfOf f0 f1) (halfOf f2 f3) else .badChecksum
  | _ => .badLength

end Sys2Proof.Machine
end

