-- ==== Sys2Proof/Machine/Measure.lean ====
section
/-! DEFINITION. READ_MEAS (42_payload_assembler.md R150 to R153): its launch, and the RX step that validates the 18-byte payload
and loads it all or nothing. Its TX and SETTLE steps are the common ones of Machine/Frame.lean. -/

namespace Sys2Proof.Machine

/-- start(READ_MEAS): frame F2 of the parameter MEAS_READ_ADDR, then a read of 18 bytes (R39, R150). -/
def startReadMeas (s : State) : State := s.startTx .readMeas (frameF2 Config.measReadAddr) Config.payloadLen

/-- READ_MEAS (R150). -/
def execReadMeas (s : State) : Result := launch (encode .readMeas) (busGate startReadMeas) s

/-- What an accepted payload loads, all in one step (R29, R171, R175). -/
def loadMeasurement (p : List Byte) (s : State) : State :=
  { s with
    payload0 := packWord p 0, payload1 := packWord p 4, payload2 := packWord p 8, payload3 := packWord p 12,
    payload4 := packLast p,
    co2 := pattern p 0, temp := pattern p 1, rh := pattern p 2, measValid := true }

/-- The RX step of READ_MEAS, answered OK(p): accepted only when no triplet fails (R150, R152). -/
def readMeasRx (p : List Byte) (s : State) : State :=
  if failMask p = 0 then (loadMeasurement p (rxReport (.okBytes p) s)).complete .none
  else { rxReport (.okBytes p) s with tripFail := failMask p }.complete .corruptPayload

end Sys2Proof.Machine
end

