-- ==== Sys2Proof/Machine/Block.lean ====
section
/-! DEFINITION. The block's step relation (10_state.md R41): each block step is enabled by one answer of the transport or by one
event of the timebase, in the phase that waits for it. An event that the phase does not wait for enables no step: nothing changes
("no block step. Only a host launch (rules R36 to R38) changes anything", R41; "no transport event ends the settle early", R251; log entry
24). -/

namespace Sys2Proof.Machine

/-- The answer to BusOpen() (R54, R121). -/
def openingStep (a : Answer) (s : State) : Result :=
  match a with
  | .ok => .next (openingOk s)
  | .err => .next (openingErr s)
  | .okCount _ => .next s
  | .okBytes _ => .next s

/-- The answer to BusWrite(txbuf): OK(c) with 0 ≤ c ≤ len(txbuf), or ERR (R55, R120). -/
def txStep (a : Answer) (s : State) : Result :=
  match a with
  | .okCount c => if c ≤ s.txbuf.length then .next (txOk c s) else .fault .answerShape
  | .err => .next (txErr s)
  | .ok => .next s
  | .okBytes _ => .next s

/-- The bytes of a read go to the operation in flight (R122, R150). -/
def rxOkStep (bytes : List Byte) (s : State) : Result :=
  match s.curOp with
  | .readReg => .next (readRegRx bytes s)
  | .readMeas => .next (readMeasRx bytes s)
  | .openSession => .fault .controlMismatch
  | .sendCmd => .fault .controlMismatch
  | .sendCmdArg => .fault .controlMismatch

/-- The answer to BusRead(rxlen): OK with exactly rxlen bytes of any value, or ERR (R56). -/
def rxStep (a : Answer) (s : State) : Result :=
  match a with
  | .okBytes bytes => if bytes.length = s.rxlen then rxOkStep bytes s else .fault .answerShape
  | .err => .next (rxErr s)
  | .ok => .next s
  | .okCount _ => .next s

/-- A step enabled by the transport's answer (R41). -/
def transportStep (a : Answer) (s : State) : Result :=
  match s.phase with
  | .idle => .next s
  | .opening => openingStep a s
  | .tx => txStep a s
  | .settle => .next s
  | .rx => rxStep a s

/-- The step that leaves SETTLE, enabled by the timebase's settle-elapsed event (R41, R250). -/
def settleElapsedStep (s : State) : Result :=
  match s.phase with
  | .idle => .next s
  | .opening => .next s
  | .tx => .next s
  | .settle => .next (leaveSettle s)
  | .rx => .next s

end Sys2Proof.Machine
end

