-- ==== Sys2Proof/Machine/Checksum.lean ====
section
/-! DEFINITION. The operations on the host accumulator: CRC_INIT and CRC_FEED (40_checksum.md R104, R105). They complete in
their launch step and work in every session state (R38). -/

namespace Sys2Proof.Machine

/-- CRC_INIT in its launch step (R104). -/
def crcInitEffect (s : State) : State := { s with crc := Config.crcInit }.complete .none

/-- CRC_INIT (R104). -/
def execCrcInit (s : State) : Result := launch (encode .crcInit) (fun t => .next (crcInitEffect t)) s

/-- CRC_FEED b in its launch step (R105). -/
def crcFeedEffect (b : Byte) (s : State) : State := { s with crc := crc8Step s.crc b }.complete .none

/-- CRC_FEED b (R105). -/
def execCrcFeed (b : Byte) (s : State) : Result := launch (encode (.crcFeed b)) (fun t => .next (crcFeedEffect b t)) s

end Sys2Proof.Machine
end

