-- ==== Sys2Proof/Machine/Dispatch.lean ====
section
/-! DEFINITION. The meaning of every operation, one arm per constructor of Instr. An operation's meaning is its launch: the host
write of its word to OPWORD (10_state.md R36 to R39). The later steps of a bus operation are block steps (Machine/Block.lean). -/

namespace Sys2Proof.Machine

def exec (i : Instr) (s : State) : Host.Outcome State Fault Refusal :=
  match i with
  | .crcInit => Sys2Proof.Machine.execCrcInit s
  | .crcFeed b => Sys2Proof.Machine.execCrcFeed b s
  | .openSession => Sys2Proof.Machine.execOpenSession s
  | .readReg w => Sys2Proof.Machine.execReadReg w s
  | .sendCmd w => Sys2Proof.Machine.execSendCmd w s
  | .sendCmdArg w => Sys2Proof.Machine.execSendCmdArg w s
  | .readMeas => Sys2Proof.Machine.execReadMeas s

end Sys2Proof.Machine
end

