-- ==== Sys2Proof/Machine/HostPort.lean ====
section
/-! DEFINITION. The host interface (20_memory.md R50 to R52), and what one input of any agent does. -/

namespace Sys2Proof.Machine

/-- A host write of OPWORD (R37, R38): the written word is decoded in that step (R65). A legal word is its operation's launch; an
illegal one is stored and completes at once with ILLEGAL_OP (R74, R215). Either is dropped while BUSY = 1 (R36). -/
def launchWord (v : Word) (s : State) : Result :=
  match decodeWord v with
  | some i => exec i s
  | none => launch v (fun t => .next (t.complete .illegalOp)) s

/-- A host write of STATUS (R24): bit 2 set clears OVR, and every other bit is ignored. -/
def writeStatus (v : Word) (s : State) : State := if v.getLsbD 2 then { s with ovr := false } else s

/-- A host write (R52): read-only and reserved registers ignore it. -/
def hostWrite (r : HostReg) (v : Word) (s : State) : Result :=
  match r with
  | .opword => launchWord v s
  | .arg => .next { s with arg := lowHalf v }
  | .status => .next (writeStatus v s)
  | .rdata => .next s
  | .crc => .next s
  | .txcount => .next s
  | .co2 => .next s
  | .temp => .next s
  | .rh => .next s
  | .payload0 => .next s
  | .payload1 => .next s
  | .payload2 => .next s
  | .payload3 => .next s
  | .payload4 => .next s
  | .reserved14 => .next s
  | .reserved15 => .next s

/-- One host access (R50). -/
def hostStep (a : HostAccess) (s : State) : Result :=
  match a with
  | .read r => .next (s.hostRead r)
  | .write r v => hostWrite r v s

/-- What one input does. -/
def inputStep (x : Input) (s : State) : Result :=
  match x with
  | .host a => hostStep a s
  | .transport a => transportStep a s
  | .tick => .next (tickStep s)
  | .settleElapsed => settleElapsedStep s
  | .reset cut => .next (s.resetBlock cut)

/-- One step of the machine: the next input is taken and acted on. With no input nothing happens: the block never moves by itself
(R41), and one that waits for an answer that does not come waits for ever (R67). -/
def nextInput (s : State) : Result :=
  match s.inputs with
  | [] => .next s
  | x :: rest => inputStep x (s.withInputs rest)

/-- The operation word of `nbits` bits with the bits of `w`, as the host writes it: the bits at and above `nbits` are 0. -/
def wordOfBits (nbits w : Nat) : Word := BitVec.ofNat 32 (w % 2 ^ nbits)

end Sys2Proof.Machine
end

