-- ==== Sys2Proof/Machine/Step.lean ====
section
/-! DEFINITION. One step of the machine, and how an operation word comes to be its next. -/

namespace Sys2Proof.Machine

/-- One step (00_scope.md R5, 10_state.md R41): one access of the host, one block step, or one reset. -/
def step (s : State) : Host.Outcome State Fault Refusal := nextInput s

/-- The block fetches no instructions: "Operations arrive as host writes to OPWORD" (20_memory.md R65). So the next operation is
placed where step takes it from: as the host's next access, before every other input (log entry 12). -/
def State.withFetchWord (s : State) (nbits w : Nat) : State :=
  s.withInputs (.host (.write .opword (wordOfBits nbits w)) :: s.inputs)

end Sys2Proof.Machine
end

