-- ==== Sys2Proof/Machine/Float.lean ====
section
/-! DEFINITION. The meaning of a channel pattern (43_float_decoder.md R173): the exact value of a binary32 pattern. No step of
the block applies it (R172); claims and host sequences do. The field layout is the spec's general knowledge (I6, log entry
15). -/

namespace Sys2Proof.Machine

/-- The value a binary32 pattern denotes (R173). `finite neg m e` is (-1)^neg * m * 2^e; the two zeros differ in `neg`. -/
inductive FloatValue where
  | finite (neg : Bool) (m : Nat) (e : Int)
  | infinity (neg : Bool)
  | nan (neg quiet : Bool) (frac : BitVec 23)
deriving DecidableEq, Repr

/-- s = v[31] (R173). -/
def floatSign (v : Word) : Bool := v.getLsbD 31

/-- e = v[30:23] (R173). -/
def floatExp (v : Word) : Nat := (v.extractLsb' 23 8).toNat

/-- f = v[22:0] (R173). -/
def floatFrac (v : Word) : BitVec 23 := v.extractLsb' 0 23

/-- value(v) of R173. -/
def floatValue (v : Word) : FloatValue :=
  if floatExp v = 255 then
    (if floatFrac v = 0 then .infinity (floatSign v) else .nan (floatSign v) ((floatFrac v).getLsbD 22) (floatFrac v))
  else if floatExp v = 0 then .finite (floatSign v) (floatFrac v).toNat (-149)
  else .finite (floatSign v) (2 ^ 23 + (floatFrac v).toNat) ((floatExp v : Int) - 150)

/-- The rational number a finite pattern denotes: "every finite pattern denotes one rational number" (R173). -/
def FloatValue.toRat : FloatValue → Option Rat
  | .finite neg m e => some ((if neg then -1 else 1) * (m : Rat) * (2 : Rat) ^ e)
  | .infinity _ => none
  | .nan _ _ _ => none

end Sys2Proof.Machine
end

