-- ==== Sys2Proof/Machine/HostSequences.lean ====
section
/-! DEFINITION. The device operations: host software that drives the block (44_device_operations.md R190 to R202). They are no
block operations and have no opcode (00_scope.md R4); a sequence here is a plan of the host, and running it places the host's
accesses before the other agents' inputs and takes steps of the machine. -/

namespace Sys2Proof.Machine

/-- What the host sees when it reads the registers after WAIT. No read has a side effect (R51) and no launch follows, so the
values are those of one moment (R53). These reads too take no host-read input and are not in the field reads (log entry 23). -/
abbrev RegView := HostReg → Word

/-- A host sequence (R190). `issue before i k` makes the host writes `before`, launches `i`, runs WAIT and goes on with what it
then reads; `waitMs ms k` is a wait of at least `ms` milliseconds. -/
inductive HostSeq (α : Type) where
  | ret (a : α)
  | issue (before : List HostAccess) (i : Instr) (k : RegView → HostSeq α)
  | waitMs (ms : Nat) (k : HostSeq α)

/-- One sequence after another. -/
def HostSeq.andThen {α β : Type} (f : α → HostSeq β) : HostSeq α → HostSeq β
  | .ret a => f a
  | .issue before i k => .issue before i (fun x => (k x).andThen f)
  | .waitMs ms k => .waitMs ms (k.andThen f)

/-- How a sequence ended: its result, the machine's state, and the least time it has waited. -/
structure SeqEnd (α : Type) where
  result   : α
  state    : State
  waitedMs : Nat

/-- `n` steps that all give a next state. -/
def stepsOf : Nat → State → Option State
  | 0, s => some s
  | n + 1, s =>
    match step s with
    | .next t => stepsOf n t
    | .fault _ => none
    | .refused _ => none

/-- WAIT (R81): the host polls STATUS.BUSY. "It ends only if the pending operation completes"; `fuel` bounds the steps it is
followed for. DESIGN CHOICE (log entry 23): how many reads of STATUS the loop makes between two steps of the machine is open; the
loop looks at STATUS before each step without taking a host-read input, so it adds nothing to the field reads. No read has a side
effect (R51), so the block goes through the same states for any number of them. -/
def waitIdle : Nat → State → Option State
  | 0, s => if (s.hostValue .status).getLsbD 0 then none else some s
  | n + 1, s =>
    if (s.hostValue .status).getLsbD 0 then
      match step s with
      | .next t => waitIdle n t
      | .fault _ => none
      | .refused _ => none
    else some s

/-- The machine with the host's accesses placed as its next inputs. -/
def State.withHost (s : State) (accesses : List HostAccess) : State :=
  s.withInputs (accesses.map .host ++ s.inputs)

/-- Runs a sequence on the machine (R190): `none` when the machine stops or the followed steps do not reach the end of a
WAIT. -/
def HostSeq.run {α : Type} (fuel : Nat) : HostSeq α → Nat → State → Option (SeqEnd α)
  | .ret a, waited, s => some ⟨a, s, waited⟩
  | .waitMs ms k, waited, s => k.run fuel (waited + ms) s
  | .issue before i k, waited, s =>
    match stepsOf (before.length + 1) (s.withHost (before ++ [launchAccess i])) with
    | none => none
    | some t =>
      match waitIdle fuel t with
      | none => none
      | some u => (k u.hostValue).run fuel waited u

/-- The kinds in which results surface (R190, R201). `other` is for the codes that no sequence gets: ILLEGAL_OP, since every
launched word is legal, and the reserved codes. -/
inductive HostError where
  | openError | ioError | corruptPayload | invalidArgument
  | other (code : BitVec 4)
deriving DecidableEq, Repr

/-- STATUS.ERR as the host reads it (R23). -/
def errField (x : RegView) : BitVec 4 := (x .status).extractLsb' 8 4

/-- The kind of STATUS.ERR, `none` for NONE; NOT_OPEN surfaces as OpenError (R190, D26). -/
def hostError (x : RegView) : Option HostError :=
  if errField x = 0#4 then none
  else if errField x = 1#4 then some .ioError
  else if errField x = 2#4 then some .corruptPayload
  else if errField x = 3#4 then some .openError
  else if errField x = 4#4 then some .openError
  else some (.other (errField x))

/-- "ok means STATUS.ERR = NONE after the issue" (R190). -/
def seqOk (x : RegView) : Bool := (hostError x).isNone

/-- RDATA[15:0] as the host reads it (R25). -/
def rdataField (x : RegView) : Half := (x .rdata).extractLsb' 0 16

/-- TXCOUNT.COUNT as the host reads it (R27). -/
def countField (x : RegView) : Byte := (x .txcount).extractLsb' 0 8

/-- isDataReady (R191): any failure is `false`, and so is any value but exactly 1. -/
def isDataReady : HostSeq Bool :=
  .issue [] (.readReg Config.addrDataReady) fun x => .ret (seqOk x && rdataField x == 1#16)

/-- softReset (R192): the wait follows whatever the outcome. -/
def softReset : HostSeq Bool :=
  .issue [] (.sendCmd Config.cmdSoftReset) fun x =>
    .waitMs Config.tSettleResetMs (.ret (seqOk x && decide (0 < (countField x).toNat)))

/-- A getter that surfaces its error (R193, R195, R197; 90_conflicts.md C3). -/
def getRegister (addr : Half) : HostSeq (Except HostError Half) :=
  .issue [] (.readReg addr) fun x =>
    match hostError x with
    | none => .ret (.ok (rdataField x))
    | some e => .ret (.error e)

/-- getCalibrationReference (R193). -/
def getCalibrationReference : HostSeq (Except HostError Half) := getRegister Config.addrCalRef

/-- isAutoSelfCalibrationEnabled (R195). -/
def isAutoSelfCalibrationEnabled : HostSeq (Except HostError Bool) :=
  (getRegister Config.addrAsc).andThen fun r =>
    match r with
    | .ok v => .ret (.ok (v == 1#16))
    | .error e => .ret (.error e)

/-- getMeasurementInterval (R197). -/
def getMeasurementInterval : HostSeq (Except HostError Half) := getRegister Config.addrInterval

/-- What a setter returns: the Boolean of R194, R196 and R198, and the kind of its error if it has one. -/
structure SetResult where
  success : Bool
  error   : Option HostError
deriving DecidableEq, Repr

/-- WR ARG, a; issue(SEND_CMD_ARG w); return ok. -/
def sendArgument (w a : Half) : HostSeq SetResult :=
  .issue [.write .arg (a.setWidth 32)] (.sendCmdArg w) fun x => .ret ⟨seqOk x, hostError x⟩

/-- setCalibrationReference (R194): the safety gate first, then the range, both before any bus traffic (R201). `safety` is the
host's configuration value CAL_SAFETY_ENABLE. -/
def setCalibrationReference (safety : Bool) (ppm : Int) : HostSeq SetResult :=
  if !safety then .ret ⟨false, none⟩
  else if ppm < Config.calMin ∨ Config.calMax < ppm then .ret ⟨false, some .invalidArgument⟩
  else sendArgument Config.addrCalRef (BitVec.ofInt 16 ppm)

/-- setAutoSelfCalibration (R196): not gated and not range-checked. -/
def setAutoSelfCalibration (enabled : Bool) : HostSeq SetResult :=
  sendArgument Config.addrAsc (if enabled then 1#16 else 0#16)

/-- setMeasurementInterval (R198). -/
def setMeasurementInterval (seconds : Int) : HostSeq SetResult :=
  if seconds < Config.intervalMin ∨ Config.intervalMax < seconds then .ret ⟨false, some .invalidArgument⟩
  else sendArgument Config.addrInterval (BitVec.ofInt 16 seconds)

/-- openSession (R199): the handle is the block itself. -/
def openSession : HostSeq (Except HostError Unit) :=
  .issue [] .openSession fun x =>
    match hostError x with
    | none => .ret (.ok ())
    | some e => .ret (.error e)

/-- A Measurement (00_scope.md section 5): the values of the three patterns. -/
structure Measurement where
  co2         : FloatValue
  temperature : FloatValue
  humidity    : FloatValue
deriving DecidableEq, Repr

/-- What pollOnce returns (R200). -/
inductive PollResult where
  | measurement (m : Measurement)
  | notReady
  | error (e : HostError)
deriving DecidableEq, Repr

/-- READ_MEAS and what its end means to the host (R200). -/
def readMeasurement : HostSeq PollResult :=
  .issue [] .readMeas fun x =>
    match hostError x with
    | none => .ret (.measurement ⟨floatValue (x .co2), floatValue (x .temp), floatValue (x .rh)⟩)
    | some e => .ret (.error e)

/-- pollOnce (R200). -/
def pollOnce : HostSeq PollResult :=
  isDataReady.andThen fun ready => if ready then readMeasurement else .ret .notReady

end Sys2Proof.Machine
end

