-- ==== Sys2Proof/Safety.lean ====
section
/-! DEFINITION. What counts as a safe run, in the terms the statements use: the invariants of the block's control state, of the
stored measurement and of the bus history, and when an answer of the transport breaks the law over its answers. -/

namespace Sys2Proof.Machine

/-! ### Control -/

/-- The frame an operation sends (R39). OPEN sends none. -/
def BusOp.frame (op : BusOp) (w a : Half) : List Byte :=
  match op with
  | .openSession => []
  | .readReg => frameF2 w
  | .sendCmd => frameF2 w
  | .sendCmdArg => frameF5 w a
  | .readMeas => frameF2 Config.measReadAddr

/-- The length of an operation's read phase (R62). -/
def BusOp.readLen : BusOp → Nat
  | .openSession => 0
  | .readReg => 2
  | .sendCmd => 0
  | .sendCmdArg => 0
  | .readMeas => 18

/-- "While BUSY = 1, DONE = 0 and ERR = 0" (R23); IO_PHASE and TRIP_FAIL were cleared by the launch (R37). -/
abbrev State.StatusInFlight (s : State) : Prop :=
  s.phase ≠ .idle → s.done = false ∧ s.err = .none ∧ s.ioPhase = false ∧ s.tripFail = 0

/-- The info fields go with their codes (R23, R210): IO_PHASE with IO_ERROR, TRIP_FAIL with CORRUPT_PAYLOAD, a FAILED session
with OPEN_ERROR, a CLOSED one with NOT_OPEN. -/
abbrev State.ErrInfoAgrees (s : State) : Prop :=
  (s.ioPhase = true → s.err = .ioError) ∧ (s.tripFail ≠ 0 ↔ s.err = .corruptPayload) ∧
    (s.err = .openError → s.session = .failed) ∧ (s.err = .notOpen → s.session = .closed)

/-- The phase agrees with the session, the operation in flight, its frame and its read length (R38, R39, R41). -/
abbrev State.PhaseAgrees (s : State) : Prop :=
  (s.phase = .opening → s.session = .closed ∧ s.curOp = .openSession) ∧
  (s.phase = .tx ∨ s.phase = .settle ∨ s.phase = .rx →
    s.session = .opened ∧ s.curOp ≠ .openSession ∧ s.txbuf = s.curOp.frame s.latW s.latA ∧ s.rxlen = s.curOp.readLen) ∧
  (s.phase = .settle ∨ s.phase = .rx → 0 < s.rxlen)

/-- The settle timer runs in SETTLE and only there (R31, R252). -/
abbrev State.TimerAgrees (s : State) : Prop := s.settleTimer.isSome = true ↔ s.phase = .settle

/-- The types R31 gives txbuf and rxlen, and TXCOUNT's two fields: LEN is 2 or 5 once a write phase has run, and COUNT never
exceeds it (R27, R55). -/
abbrev State.LengthsOk (s : State) : Prop :=
  (s.txbuf.length = 2 ∨ s.txbuf.length = 5) ∧ (s.rxlen = 0 ∨ s.rxlen = 2 ∨ s.rxlen = 18) ∧
    (s.txLen = 0 ∨ s.txLen = 2 ∨ s.txLen = 5) ∧ s.txCount.toNat ≤ s.txLen.toNat

/-- The invariant of the block's control state. -/
abbrev State.ControlInv (s : State) : Prop :=
  s.StatusInFlight ∧ s.ErrInfoAgrees ∧ s.PhaseAgrees ∧ s.TimerAgrees ∧ s.LengthsOk

/-! ### The stored measurement -/

/-- The four bytes of a register, first byte first (R29). -/
def wordBytes (v : Word) : List Byte :=
  [v.extractLsb' 24 8, v.extractLsb' 16 8, v.extractLsb' 8 8, v.extractLsb' 0 8]

/-- The 18 payload bytes that PAYLOAD0 to PAYLOAD4 hold (R29). -/
def State.payloadBytes (s : State) : List Byte :=
  wordBytes s.payload0 ++ wordBytes s.payload1 ++ wordBytes s.payload2 ++ wordBytes s.payload3 ++
    [hiByte s.payload4, loByte s.payload4]

/-- "either all three fields are valid or ... no Measurement is produced" (R175): with MEAS_VALID the stored payload passes all
six checks (R152) and CO2, TEMP and RH are its patterns (R171); without it every one of these registers still is 0
(R240). RDATA is 0 until a READ_REG has succeeded. -/
abbrev State.MeasInv (s : State) : Prop :=
  (s.measValid = true → failMask s.payloadBytes = 0 ∧ s.co2 = pattern s.payloadBytes 0 ∧ s.temp = pattern s.payloadBytes 1 ∧
    s.rh = pattern s.payloadBytes 2) ∧
  (s.measValid = false → s.payload0 = 0 ∧ s.payload1 = 0 ∧ s.payload2 = 0 ∧ s.payload3 = 0 ∧ s.payload4 = 0 ∧ s.co2 = 0 ∧
    s.temp = 0 ∧ s.rh = 0) ∧
  (s.rdataValid = false → s.rdata = 0)

/-! ### The bus history -/

/-- Whether an answer has a shape the spec allows for a request (R54 to R56). -/
def Answer.fits : BusRequest → Answer → Bool
  | .busOpen, .ok => true
  | .busWrite f, .okCount c => decide (c ≤ f.length)
  | .busRead n, .okBytes bs => bs.length == n
  | _, .err => true
  | _, _ => false

/-- A frame is a command or a command with a matching checksum (R126): the block "never sends a bad frame" (N16). -/
def goodFrame (f : List Byte) : Bool :=
  match parseFrame f with
  | .cmd _ => true
  | .cmdArg _ _ => true
  | .badChecksum => false
  | .badLength => false

/-- An event the block may leave: an F2 or F5 frame, a read of 2 or 18 bytes (R62, R79), and an answer that fits. -/
def BusEvent.legal (e : BusEvent) : Bool :=
  (match e.request with
    | .busOpen => true
    | .busWrite f => goodFrame f
    | .busRead n => n == 2 || n == 18) &&
  (match e.ending with
    | .answered a => a.fits e.request
    | .abandoned k => decide (k ≤ e.request.size))

/-- The frame of a 2-byte write that the transport answered OK: the only event that a read may follow. -/
def BusEvent.writtenFrame (e : BusEvent) : Option (List Byte) :=
  match e.request, e.ending with
  | .busWrite f, .answered (.okCount _) => if f.length = 2 then some f else none
  | _, _ => none

/-- Whether a request may come directly after a write of the frame `prev`: a read only after the write of its operation. A read of
2 bytes is READ_REG's, whose frame may be any; one of another length is READ_MEAS's, whose frame is MEAS_READ_ADDR (R62,
R150). -/
def BusRequest.mayFollow (prev : Option (List Byte)) : BusRequest → Bool
  | .busOpen => true
  | .busWrite _ => true
  | .busRead n =>
    match prev with
    | none => false
    | some f => n == 2 || f == frameF2 Config.measReadAddr

/-- Each read of the history comes directly after the successful write of its operation (R63: no other transaction comes between
the two). `prev` is the frame of the event before the list, if that is such a write. -/
def readsFollowWrites : Option (List Byte) → List BusEvent → Bool
  | _, [] => true
  | prev, e :: rest => e.request.mayFollow prev && readsFollowWrites e.writtenFrame rest

/-- The frame of the last event of a history, if that is such a write. -/
def lastWrittenFrame (h : List BusEvent) : Option (List Byte) :=
  match h.getLast? with
  | none => none
  | some e => e.writtenFrame

/-- The invariant of the bus history: every event is legal, every read follows its write, and in SETTLE and RX the last event is
the write of the frame of the operation in flight. -/
abbrev State.HistoryInv (s : State) : Prop :=
  s.history.all BusEvent.legal = true ∧ readsFollowWrites none s.history = true ∧
    (s.phase = .settle ∨ s.phase = .rx → lastWrittenFrame s.history = some s.txbuf)

/-! ### When the agents keep to the spec -/

/-- Whether an input is an answer to the outstanding request that breaks the one law over the transport's answers: a count above the
frame's length, or a wrong number of bytes (R5, R55, R56). -/
def inputBreaksShape (s : State) : Input → Bool
  | .host _ => false
  | .tick => false
  | .reset _ => false
  | .settleElapsed => false
  | .transport a =>
    match s.request with
    | none => false
    | some q => a.answers q && !a.fits q

/-- The result registers and VALID bits, which a failing operation leaves alone (R152, R219). -/
abbrev State.SameResults (s t : State) : Prop :=
  t.rdata = s.rdata ∧ t.rdataValid = s.rdataValid ∧ t.measValid = s.measValid ∧ t.co2 = s.co2 ∧ t.temp = s.temp ∧
    t.rh = s.rh ∧ t.payload0 = s.payload0 ∧ t.payload1 = s.payload1 ∧ t.payload2 = s.payload2 ∧
    t.payload3 = s.payload3 ∧ t.payload4 = s.payload4

/-- The reset input. -/
def Input.isReset : Input → Bool
  | .host _ => false
  | .transport _ => false
  | .tick => false
  | .settleElapsed => false
  | .reset _ => true

/-- An input of the host. -/
def Input.isHost : Input → Bool
  | .host _ => true
  | .transport _ => false
  | .tick => false
  | .settleElapsed => false
  | .reset _ => false

/-- An input of the timebase. -/
def Input.isTimebase : Input → Bool
  | .host _ => false
  | .transport _ => false
  | .tick => true
  | .settleElapsed => true
  | .reset _ => false

/-- An input of the transport. -/
def Input.isTransport : Input → Bool
  | .host _ => false
  | .transport _ => true
  | .tick => false
  | .settleElapsed => false
  | .reset _ => false

end Sys2Proof.Machine
end

