-- ==== Sys2Proof/Certificates/Slice0/Obligations.lean ====
section
/-! DEFINITION. The statements for the provers. Each docstring names the rules of spec/ it formalises. A launch is a host write of
an operation's word to OPWORD; the words are written here as 30_encoding.md R80 writes them. -/

open Sys2Proof Sys2Proof.Machine

/-! ### Encoding -/

/-- R70, R71, R80: every operation, with every value of its operands, decodes from its own word. -/
def Obligations.DecodeOfEncodeIsTheOperation : Prop :=
  ∀ i : Instr, i.wf = true → decodeWord (encode i) = some i

/-- R70, R71: a word that decodes is the encoding of what it decodes to, so no bit of a legal word is dropped. -/
def Obligations.EncodeOfDecodeIsTheWord : Prop :=
  ∀ (v : Word) (i : Instr), decodeWord v = some i → encode i = v

/-- R72 (and the list of R74): the decoder rejects a word exactly when its OP is unassigned or a field its operation does not use
is nonzero: Z always, W for CRC_INIT, CRC_FEED, OPEN and READ_MEAS, B for every operation but CRC_FEED. -/
def Obligations.UnusedFieldsMustBeZero : Prop :=
  ∀ v : Word, decodeWord v = none ↔
    (v.extractLsb' 0 4 = 0#4 ∨ 8 ≤ (v.extractLsb' 0 4).toNat ∨ v.extractLsb' 4 4 ≠ 0#4 ∨
      (v.extractLsb' 0 4 ≠ 2#4 ∧ v.extractLsb' 8 8 ≠ 0#8) ∨
      (v.extractLsb' 0 4 ∈ [1#4, 2#4, 3#4, 7#4] ∧ v.extractLsb' 16 16 ≠ 0#16))

/-- R71: "No two rows overlap", for any two different rows of the table and any word. -/
def Obligations.OpcodeRowsDoNotOverlap : Prop :=
  opRows.Pairwise fun r q => ∀ v : Word, ¬ (r.selects v = true ∧ q.selects v = true)

/-- R71, R80: words written out from the table decode to the operations they stand for (a sanity statement). -/
def Obligations.SampleWordsDecode : Prop :=
  decodeWord 0x00000001#32 = some .crcInit ∧ decodeWord 0x0000E802#32 = some (.crcFeed 0xE8#8) ∧
    decodeWord 0x00000003#32 = some .openSession ∧ decodeWord 0x02020004#32 = some (.readReg 0x0202#16) ∧
    decodeWord 0xD3040005#32 = some (.sendCmd 0xD304#16) ∧ decodeWord 0x52040006#32 = some (.sendCmdArg 0x5204#16) ∧
    decodeWord 0x00000007#32 = some .readMeas ∧ decodeWord 0x00000000#32 = none

/-! ### Launches -/

/-- R65, R37: a step on a host write of OPWORD runs the operation that the written word decodes to, in that step; placed by
`withFetchWord` (log entry 12), a word of the table is the next to run. -/
def Obligations.StepRunsTheDecodedOperation : Prop :=
  ∀ (s : State) (i : Instr),
    (∀ (v : Word) (rest : List Input), s.inputs = .host (.write .opword v) :: rest → decodeWord v = some i →
      step s = exec i { s with inputs := rest }) ∧
    (∀ w : Nat, decodeTableWord 32 w = some i → step (s.withFetchWord 32 w) = exec i s)

/-- R36: a write of OPWORD while an operation is in flight, legal word or not, sets OVR and changes nothing else. -/
def Obligations.BusyLaunchIsDropped : Prop :=
  ∀ (s : State) (v : Word) (rest : List Input),
    s.inputs = .host (.write .opword v) :: rest → s.phase ≠ .idle →
      step s = .next { s with inputs := rest, ovr := true }

/-- R37, R38: an accepted launch is answered in its step; it stores the word, whether legal or not, clears IO_PHASE and
TRIP_FAIL, and changes neither OVR, RDATA_VALID, MEAS_VALID, SESSION nor a result register; afterwards the operation is
either complete or in flight with ERR = NONE. -/
def Obligations.AcceptedLaunchStoresTheWord : Prop :=
  ∀ (s : State) (v : Word), s.phase = .idle →
    ∃ t, hostWrite .opword v s = .next t ∧ t.opword = v ∧ t.ioPhase = false ∧ t.tripFail = 0 ∧ t.ovr = s.ovr ∧
      t.session = s.session ∧ s.SameResults t ∧
      ((t.phase = .idle ∧ t.done = true) ∨ (t.phase ≠ .idle ∧ t.done = false ∧ t.err = .none))

/-- R74, R215: an accepted launch of an illegal word, in every session state, stores it and completes at once with ILLEGAL_OP;
nothing else changes. -/
def Obligations.IllegalWordCompletesWithIllegalOp : Prop :=
  ∀ (s : State) (v : Word) (rest : List Input),
    s.inputs = .host (.write .opword v) :: rest → s.phase = .idle → decodeWord v = none →
      step s = .next { s with
        inputs := rest, opword := v, done := true, err := .illegalOp, ioPhase := false,
        tripFail := 0, settleTimer := none }

/-- The frame of every operation's launch step (R26, R37, R42, R219): no result register, no TXCOUNT field, not ARG, not the
session, not the bus history and no other record changes; CRC changes for CRC_INIT and CRC_FEED only; OVR changes only when
the launch was dropped, and then OPWORD and STATUS's other fields do not change.
That a launch which requests BusOpen or BusWrite adds no event yet is log entry 9 (an event enters the history when its request
ends); the fields reads and inputs, which stay too, are the model's own (log entries 10 and 4). -/
def Obligations.LaunchFrame : Prop :=
  ∀ (i : Instr) (s t : State), exec i s = .next t →
    s.SameResults t ∧ t.arg = s.arg ∧ t.txLen = s.txLen ∧ t.txCount = s.txCount ∧ t.session = s.session ∧
      t.history = s.history ∧ t.reads = s.reads ∧ t.inputs = s.inputs ∧
      (t.crc ≠ s.crc → i = .crcInit ∨ ∃ b, i = .crcFeed b) ∧
      (s.phase = .idle → t.ovr = s.ovr) ∧ (s.phase ≠ .idle → t = { s with ovr := true })

/-! ### The checksum -/

/-- R103: a step is T of the accumulator and the byte, T being the eight rounds of R100; the eight rounds and the lookup in the
printed table give the same value for all accumulators and bytes. -/
def Obligations.CrcStepIsTableLookup : Prop :=
  ∀ acc b : Byte, crc8Step acc b = crc8Step 0#8 (acc ^^^ b) ∧ crc8Step acc b = crcTable.getD (acc ^^^ b).toNat 0#8

/-- R103, R154: the round map T is linear over GF(2) and a bijection of the 256 bytes. -/
def Obligations.RoundMapIsLinearBijection : Prop :=
  (∀ x y : Byte, crc8Step 0#8 (x ^^^ y) = crc8Step 0#8 x ^^^ crc8Step 0#8 y) ∧
    (∀ x y : Byte, crc8Step 0#8 x = crc8Step 0#8 y → x = y) ∧ (∀ z : Byte, ∃ x, crc8Step 0#8 x = z)

/-- R101, R109: the empty sequence gives the initial value, and the worked trace of [0xBE, 0xEF]. -/
def Obligations.ChecksumWorkedValues : Prop :=
  crc8 [] = 0xFF#8 ∧ crc8Step 0xFF#8 0xBE#8 = 0x0C#8 ∧ crc8 [0xBE#8, 0xEF#8] = 0x92#8

/-- R154: a change of one data byte always changes the checksum, and a change of the first can be hidden by exactly one change
of the second (so 255 of the two-byte changes keep it). -/
def Obligations.OneByteChangeIsSeenTwoCanHide : Prop :=
  (∀ a a' b : Byte, a ≠ a' → crc8 [a, b] ≠ crc8 [a', b]) ∧ (∀ a b b' : Byte, b ≠ b' → crc8 [a, b] ≠ crc8 [a, b']) ∧
    (∀ a a' b : Byte, a ≠ a' → ∃ b', b' ≠ b ∧ crc8 [a', b'] = crc8 [a, b] ∧
      ∀ b'', crc8 [a', b''] = crc8 [a, b] → b'' = b')

/-- R104: CRC_INIT stores 0xFF and completes in its launch step in every session state; launched while busy it is dropped; a word
of its OP with any other bit set ends with ILLEGAL_OP and leaves CRC as it was. -/
def Obligations.CrcInitSetsTheAccumulator : Prop :=
  (∀ s : State, s.phase = .idle →
    exec .crcInit s = .next { s with
      opword := 0x00000001#32, crc := 0xFF#8, done := true, err := .none,
      ioPhase := false, tripFail := 0, settleTimer := none }) ∧
  (∀ s : State, s.phase ≠ .idle → exec .crcInit s = .next { s with ovr := true }) ∧
  (∀ (s : State) (v : Word), s.phase = .idle → v &&& 0x0000000F#32 = 0x00000001#32 → v ≠ 0x00000001#32 →
    ∃ t, hostWrite .opword v s = .next t ∧ t.err = .illegalOp ∧ t.done = true ∧ t.phase = .idle ∧ t.crc = s.crc)

/-- R105: CRC_FEED b folds b into the accumulator and completes in its launch step in every session state; a feed of the
accumulator's own value makes it 0; launched while busy it is dropped; with a nonzero W or Z the word ends
with ILLEGAL_OP and leaves CRC as it was. -/
def Obligations.CrcFeedFoldsOneByte : Prop :=
  (∀ (s : State) (b : Byte), s.phase = .idle →
    exec (.crcFeed b) s = .next { s with
      opword := 0x00000002#32 ||| (b.setWidth 32 <<< 8), crc := crc8Step s.crc b,
      done := true, err := .none, ioPhase := false, tripFail := 0, settleTimer := none }) ∧
  (∀ s : State, s.phase = .idle → ∃ t, exec (.crcFeed s.crc) s = .next t ∧ t.crc = 0#8) ∧
  (∀ (s : State) (b : Byte), s.phase ≠ .idle → exec (.crcFeed b) s = .next { s with ovr := true }) ∧
  (∀ (s : State) (v : Word), s.phase = .idle → v &&& 0x0000000F#32 = 0x00000002#32 → v &&& 0xFFFF00F0#32 ≠ 0#32 →
    ∃ t, hostWrite .opword v s = .next t ∧ t.err = .illegalOp ∧ t.done = true ∧ t.phase = .idle ∧ t.crc = s.crc)

/-- R105, R101: CRC_INIT and then CRC_FEED of each byte of any sequence leaves the sequence's checksum in CRC, with no bus
traffic and in every session state. -/
def Obligations.FeedingBytesComputesTheChecksum : Prop :=
  ∀ (s : State) (bytes : List Byte) (rest : List Input), s.phase = .idle →
    s.inputs = .host (launchAccess .crcInit) :: (bytes.map fun b => Input.host (launchAccess (.crcFeed b))) ++ rest →
      ∃ t, core.run (bytes.length + 1) s = .next t ∧ t.crc = crc8 bytes ∧ t.inputs = rest ∧ t.phase = .idle ∧
        t.done = true ∧ t.err = .none ∧ t.history = s.history ∧ t.session = s.session ∧ s.SameResults t

/-- R107, R151: the fail mask is the sum of 2^k over the windows k whose data checksum differs from their third byte. -/
def Obligations.FailMaskSumsFailingWindows : Prop :=
  ∀ p : List Byte, (failMask p).toNat =
    ((List.range 6).map fun k =>
      if crc8 [p.getD (3 * k) 0#8, p.getD (3 * k + 1) 0#8] = p.getD (3 * k + 2) 0#8 then 0 else 2 ^ k).sum

/-- R170, R171: a data word is a triplet's two data bytes, and a channel's pattern its four data bytes, big-endian. -/
def Obligations.PatternIsFourDataBytes : Prop :=
  ∀ p : List Byte,
    (∀ k, k < 6 → (dataWord p k).toNat = (p.getD (3 * k) 0#8).toNat * 256 + (p.getD (3 * k + 1) 0#8).toNat) ∧
    (∀ c, c < 3 → (pattern p c).toNat = (p.getD (6 * c) 0#8).toNat * 2 ^ 24 + (p.getD (6 * c + 1) 0#8).toNat * 2 ^ 16 +
      (p.getD (6 * c + 3) 0#8).toNat * 2 ^ 8 + (p.getD (6 * c + 4) 0#8).toNat)

/-- R29: PAYLOAD0 to PAYLOAD4 of an accepted payload hold its 18 bytes in order, checksum bytes included, and PAYLOAD4's low half
reads 0 in every state. -/
def Obligations.PayloadRegistersHoldTheBytes : Prop :=
  (∀ (s : State) (p : List Byte), p.length = 18 → (loadMeasurement p s).payloadBytes = p) ∧
    (∀ s : State, (s.hostValue .payload4).extractLsb' 0 16 = 0#16 ∧
      (s.hostValue .payload4).extractLsb' 16 8 = loByte s.payload4 ∧
      (s.hostValue .payload4).extractLsb' 24 8 = hiByte s.payload4)

/-! ### OPEN and the session -/

/-- R121: OPEN's launch in each session state, and the OPENING step for each answer.
When an event enters the history, and what else OPEN latches, are log entries 9 and 13. -/
def Obligations.OpenOperation : Prop :=
  (∀ s : State, s.phase = .idle → s.session = .failed →
    exec .openSession s = .next { s with
      opword := 0x00000003#32, done := true, err := .openError, ioPhase := false,
      tripFail := 0, settleTimer := none }) ∧
  (∀ s : State, s.phase = .idle → s.session = .opened →
    exec .openSession s = .next { s with
      opword := 0x00000003#32, done := true, err := .none, ioPhase := false,
      tripFail := 0, settleTimer := none }) ∧
  (∀ s : State, s.phase = .idle → s.session = .closed →
    exec .openSession s = .next { s with
      opword := 0x00000003#32, done := false, err := .none, ioPhase := false,
      tripFail := 0, curOp := .openSession, latW := 0#16, latA := s.arg, phase := .opening }) ∧
  (∀ (s : State) (rest : List Input), s.phase = .opening → s.inputs = .transport .ok :: rest →
    step s = .next { s with
      inputs := rest, session := .opened, done := true, err := .none, phase := .idle,
      settleTimer := none, history := s.history ++ [⟨.busOpen, .answered .ok⟩] }) ∧
  (∀ (s : State) (rest : List Input), s.phase = .opening → s.inputs = .transport .err :: rest →
    step s = .next { s with
      inputs := rest, session := .failed, done := true, err := .openError, phase := .idle,
      settleTimer := none, history := s.history ++ [⟨.busOpen, .answered .err⟩] })

/-- R38, R213, R214: a bus operation other than OPEN needs an open session: FAILED gives OPEN_ERROR and CLOSED gives NOT_OPEN,
each in the launch step and with no bus traffic. -/
def Obligations.BusOperationNeedsAnOpenSession : Prop :=
  ∀ (s : State) (i : Instr), s.phase = .idle →
    (i = .readMeas ∨ ∃ w, i = .readReg w ∨ i = .sendCmd w ∨ i = .sendCmdArg w) →
    (s.session = .failed →
      exec i s = .next { s with
        opword := encode i, done := true, err := .openError, ioPhase := false, tripFail := 0,
        settleTimer := none }) ∧
    (s.session = .closed →
      exec i s = .next { s with
        opword := encode i, done := true, err := .notOpen, ioPhase := false, tripFail := 0,
        settleTimer := none })

/-- R32: the session is CLOSED after reset and changes only by the answer to an OPEN or by reset; in every state that meets the
control invariant only reset leaves FAILED, and only reset takes an open session back; STATUS.SESSION is its code. -/
def Obligations.SessionChangesOnlyByOpenAndReset : Prop :=
  State.reset.session = .closed ∧
  (∀ (s t : State) (x : Input) (rest : List Input), s.inputs = x :: rest → step s = .next t → t.session ≠ s.session →
    (s.phase = .opening ∧ x = .transport .ok ∧ t.session = .opened) ∨
    (s.phase = .opening ∧ x = .transport .err ∧ t.session = .failed) ∨
    (x.isReset = true ∧ t.session = .closed)) ∧
  (∀ (s t : State) (x : Input) (rest : List Input), s.ControlInv → s.inputs = x :: rest → step s = .next t →
    x.isReset = false →
    (s.session = .failed → t.session = .failed) ∧ (s.session = .opened → t.session = .opened)) ∧
  (∀ s : State, ((s.hostValue .status).extractLsb' 6 2).toNat =
    (match s.session with | .closed => 0 | .opened => 1 | .failed => 2))

/-! ### Write phases, the settle interval and read phases -/

/-- R120, R41: the TX step for each answer. LEN and COUNT are recorded; ERR ends the operation with IO_ERROR and IO_PHASE = 0;
OK(c), whatever c is, goes on to SETTLE when there is a read phase and else completes.
When the event enters the history is log entry 9. -/
def Obligations.WritePhaseAnswered : Prop :=
  (∀ (s : State) (rest : List Input), s.phase = .tx → s.inputs = .transport .err :: rest →
    step s = .next { s with
      inputs := rest, txLen := BitVec.ofNat 8 s.txbuf.length, txCount := 0#8, ioPhase := false,
      err := .ioError, done := true, phase := .idle, settleTimer := none,
      history := s.history ++ [⟨.busWrite s.txbuf, .answered .err⟩] }) ∧
  (∀ (s : State) (c : Nat) (rest : List Input), s.phase = .tx → s.inputs = .transport (.okCount c) :: rest →
    c ≤ s.txbuf.length → 0 < s.rxlen →
    step s = .next { s with
      inputs := rest, txLen := BitVec.ofNat 8 s.txbuf.length, txCount := BitVec.ofNat 8 c,
      phase := .settle, settleTimer := some Config.settleCount,
      history := s.history ++ [⟨.busWrite s.txbuf, .answered (.okCount c)⟩] }) ∧
  (∀ (s : State) (c : Nat) (rest : List Input), s.phase = .tx → s.inputs = .transport (.okCount c) :: rest →
    c ≤ s.txbuf.length → s.rxlen = 0 →
    step s = .next { s with
      inputs := rest, txLen := BitVec.ofNat 8 s.txbuf.length, txCount := BitVec.ofNat 8 c,
      err := .none, done := true, phase := .idle, settleTimer := none,
      history := s.history ++ [⟨.busWrite s.txbuf, .answered (.okCount c)⟩] })

/-- R252: a timer loaded with n counts one per tick; after k < n ticks the block is still in SETTLE with n - k left, and the n-th
tick leaves SETTLE for RX.
The two forms of the timebase are log entry 2. -/
def Obligations.SettleTimerCountsTicks : Prop :=
  ∀ (s : State) (n : Nat) (rest : List Input), s.phase = .settle → s.settleTimer = some n → 0 < n →
    s.inputs = List.replicate n .tick ++ rest →
    (∀ k, k < n → core.run k s =
      .next { s with settleTimer := some (n - k), inputs := List.replicate (n - k) .tick ++ rest }) ∧
    core.run n s = .next { s with phase := .rx, settleTimer := none, inputs := rest }

/-- R251: no host access and no answer of the transport ends the settle interval, stops its timer or changes it; only the
timebase and reset do. -/
def Obligations.SettleCannotBeCutShort : Prop :=
  ∀ (s t : State) (x : Input) (rest : List Input), s.phase = .settle → s.inputs = x :: rest →
    x.isTimebase = false → x.isReset = false → step s = .next t →
    t.phase = .settle ∧ t.settleTimer = s.settleTimer ∧ t.curOp = s.curOp ∧ t.txbuf = s.txbuf ∧ t.rxlen = s.rxlen ∧
      t.history = s.history

/-- R67: no timeout. With no input the state stays as it is; and in OPENING, TX and RX nothing but the transport's answer or reset
ends the wait: the same request stays outstanding.
That a step with no input changes nothing is log entry 4. -/
def Obligations.WaitsForTheTransportWithoutTimeout : Prop :=
  (∀ s : State, s.inputs = [] → step s = .next s) ∧
  (∀ (s t : State) (x : Input) (rest : List Input), (s.phase = .opening ∨ s.phase = .tx ∨ s.phase = .rx) →
    s.inputs = x :: rest → x.isTransport = false → x.isReset = false → step s = .next t →
    t.phase = s.phase ∧ t.request = s.request ∧ t.busy = true ∧ t.history = s.history)

/-- R41: how the phase can change in one step that is no reset, and by whose event. -/
def Obligations.PhaseOrder : Prop :=
  ∀ (s t : State) (x : Input) (rest : List Input), s.inputs = x :: rest → step s = .next t → x.isReset = false →
    t.phase ≠ s.phase →
    (s.phase = .idle ∧ (t.phase = .opening ∨ t.phase = .tx) ∧ ∃ v, x = .host (.write .opword v)) ∨
    (s.phase = .opening ∧ t.phase = .idle ∧ t.done = true ∧ x.isTransport = true) ∨
    (s.phase = .tx ∧ t.phase = .idle ∧ t.done = true ∧ x.isTransport = true) ∨
    (s.phase = .tx ∧ t.phase = .settle ∧ 0 < s.rxlen ∧ ∃ c, x = .transport (.okCount c)) ∨
    (s.phase = .settle ∧ t.phase = .rx ∧ x.isTimebase = true) ∨
    (s.phase = .rx ∧ t.phase = .idle ∧ t.done = true ∧ x.isTransport = true)

/-! ### The operations from launch to completion -/

/-- R122: READ_REG in an open session: its launch, and its whole run for every pattern of answers: a successful read, a failed
write (no settle, no read) and a failed read (RDATA and RDATA_VALID unchanged).
The settle event and the time at which an event enters the history are log entries 2 and 9. -/
def Obligations.ReadRegOperation : Prop :=
  ∀ (s : State) (w : Half), s.phase = .idle → s.session = .opened →
    exec (.readReg w) s = .next { s with
      opword := 0x00000004#32 ||| (w.setWidth 32 <<< 16), done := false,
      err := .none, ioPhase := false, tripFail := 0, curOp := .readReg, latW := w, latA := s.arg,
      txbuf := [w.extractLsb' 8 8, w.extractLsb' 0 8], rxlen := 2, phase := .tx } ∧
    (∀ (c : Nat) (b0 b1 : Byte) (rest : List Input), c ≤ 2 →
      s.inputs = .host (launchAccess (.readReg w)) :: .transport (.okCount c) :: .settleElapsed ::
        .transport (.okBytes [b0, b1]) :: rest →
      core.run 4 s = .next { s with
        inputs := rest, opword := 0x00000004#32 ||| (w.setWidth 32 <<< 16), done := true,
        err := .none, ioPhase := false, tripFail := 0, rdata := BitVec.ofNat 16 (b0.toNat * 256 + b1.toNat),
        rdataValid := true, txLen := 2#8, txCount := BitVec.ofNat 8 c, curOp := .readReg, latW := w, latA := s.arg,
        txbuf := [w.extractLsb' 8 8, w.extractLsb' 0 8], rxlen := 2, settleTimer := none,
        history := s.history ++ [⟨.busWrite [w.extractLsb' 8 8, w.extractLsb' 0 8], .answered (.okCount c)⟩,
          ⟨.busRead 2, .answered (.okBytes [b0, b1])⟩] }) ∧
    (∀ rest : List Input, s.inputs = .host (launchAccess (.readReg w)) :: .transport .err :: rest →
      core.run 2 s = .next { s with
        inputs := rest, opword := 0x00000004#32 ||| (w.setWidth 32 <<< 16), done := true,
        err := .ioError, ioPhase := false, tripFail := 0, txLen := 2#8, txCount := 0#8, curOp := .readReg, latW := w,
        latA := s.arg, txbuf := [w.extractLsb' 8 8, w.extractLsb' 0 8], rxlen := 2, settleTimer := none,
        history := s.history ++ [⟨.busWrite [w.extractLsb' 8 8, w.extractLsb' 0 8], .answered .err⟩] }) ∧
    (∀ (c : Nat) (rest : List Input), c ≤ 2 →
      s.inputs = .host (launchAccess (.readReg w)) :: .transport (.okCount c) :: .settleElapsed ::
        .transport .err :: rest →
      core.run 4 s = .next { s with
        inputs := rest, opword := 0x00000004#32 ||| (w.setWidth 32 <<< 16), done := true,
        err := .ioError, ioPhase := true, tripFail := 0, txLen := 2#8, txCount := BitVec.ofNat 8 c, curOp := .readReg,
        latW := w, latA := s.arg, txbuf := [w.extractLsb' 8 8, w.extractLsb' 0 8], rxlen := 2, settleTimer := none,
        history := s.history ++ [⟨.busWrite [w.extractLsb' 8 8, w.extractLsb' 0 8], .answered (.okCount c)⟩,
          ⟨.busRead 2, .answered .err⟩] })

/-- R123: SEND_CMD in an open session: its launch, and its whole run for each answer; any reported count is a success.
When the event enters the history is log entry 9. -/
def Obligations.SendCmdOperation : Prop :=
  ∀ (s : State) (w : Half), s.phase = .idle → s.session = .opened →
    exec (.sendCmd w) s = .next { s with
      opword := 0x00000005#32 ||| (w.setWidth 32 <<< 16), done := false,
      err := .none, ioPhase := false, tripFail := 0, curOp := .sendCmd, latW := w, latA := s.arg,
      txbuf := [w.extractLsb' 8 8, w.extractLsb' 0 8], rxlen := 0, phase := .tx } ∧
    (∀ (c : Nat) (rest : List Input), c ≤ 2 →
      s.inputs = .host (launchAccess (.sendCmd w)) :: .transport (.okCount c) :: rest →
      core.run 2 s = .next { s with
        inputs := rest, opword := 0x00000005#32 ||| (w.setWidth 32 <<< 16), done := true,
        err := .none, ioPhase := false, tripFail := 0, txLen := 2#8, txCount := BitVec.ofNat 8 c, curOp := .sendCmd,
        latW := w, latA := s.arg, txbuf := [w.extractLsb' 8 8, w.extractLsb' 0 8], rxlen := 0, settleTimer := none,
        history := s.history ++ [⟨.busWrite [w.extractLsb' 8 8, w.extractLsb' 0 8], .answered (.okCount c)⟩] }) ∧
    (∀ rest : List Input, s.inputs = .host (launchAccess (.sendCmd w)) :: .transport .err :: rest →
      core.run 2 s = .next { s with
        inputs := rest, opword := 0x00000005#32 ||| (w.setWidth 32 <<< 16), done := true,
        err := .ioError, ioPhase := false, tripFail := 0, txLen := 2#8, txCount := 0#8, curOp := .sendCmd, latW := w,
        latA := s.arg, txbuf := [w.extractLsb' 8 8, w.extractLsb' 0 8], rxlen := 0, settleTimer := none,
        history := s.history ++ [⟨.busWrite [w.extractLsb' 8 8, w.extractLsb' 0 8], .answered .err⟩] })

/-- R124: SEND_CMD_ARG in an open session: its launch sends the 5-byte frame with ARG of the launch step and the checksum over the
two argument bytes only; a host write of ARG after the launch does not change the frame; any reported count is a success.
When the event enters the history is log entry 9. -/
def Obligations.SendCmdArgOperation : Prop :=
  ∀ (s : State) (w : Half) (f : List Byte), s.phase = .idle → s.session = .opened →
    f = [w.extractLsb' 8 8, w.extractLsb' 0 8, s.arg.extractLsb' 8 8, s.arg.extractLsb' 0 8,
      crc8 [s.arg.extractLsb' 8 8, s.arg.extractLsb' 0 8]] →
    exec (.sendCmdArg w) s = .next { s with
      opword := 0x00000006#32 ||| (w.setWidth 32 <<< 16), done := false,
      err := .none, ioPhase := false, tripFail := 0, curOp := .sendCmdArg, latW := w, latA := s.arg, txbuf := f,
      rxlen := 0, phase := .tx } ∧
    (∀ (c : Nat) (v : Word) (rest : List Input), c ≤ 5 →
      s.inputs = .host (launchAccess (.sendCmdArg w)) :: .host (.write .arg v) :: .transport (.okCount c) :: rest →
      core.run 3 s = .next { s with
        inputs := rest, opword := 0x00000006#32 ||| (w.setWidth 32 <<< 16),
        arg := v.extractLsb' 0 16, done := true, err := .none, ioPhase := false, tripFail := 0, txLen := 5#8,
        txCount := BitVec.ofNat 8 c, curOp := .sendCmdArg, latW := w, latA := s.arg, txbuf := f, rxlen := 0,
        settleTimer := none, history := s.history ++ [⟨.busWrite f, .answered (.okCount c)⟩] }) ∧
    (∀ rest : List Input, s.inputs = .host (launchAccess (.sendCmdArg w)) :: .transport .err :: rest →
      core.run 2 s = .next { s with
        inputs := rest, opword := 0x00000006#32 ||| (w.setWidth 32 <<< 16), done := true,
        err := .ioError, ioPhase := false, tripFail := 0, txLen := 5#8, txCount := 0#8, curOp := .sendCmdArg, latW := w,
        latA := s.arg, txbuf := f, rxlen := 0, settleTimer := none,
        history := s.history ++ [⟨.busWrite f, .answered .err⟩] })

/-- R150, R152, R175: READ_MEAS in an open session, for every value of the parameter MEAS_READ_ADDR: its launch, and its whole run
when the payload passes all six checks (everything is loaded in the last step), when it does not (TRIP_FAIL, and no result
changes), when the write fails and when the read fails.
The settle event, the time at which an event enters the history, and the latches are log entries 2, 9 and 13. -/
def Obligations.ReadMeasOperation : Prop :=
  ∀ (s : State) (f : List Byte), s.phase = .idle → s.session = .opened →
    f = [Config.measReadAddr.extractLsb' 8 8, Config.measReadAddr.extractLsb' 0 8] →
    exec .readMeas s = .next { s with
      opword := 0x00000007#32, done := false, err := .none, ioPhase := false,
      tripFail := 0, curOp := .readMeas, latW := 0#16, latA := s.arg, txbuf := f, rxlen := 18, phase := .tx } ∧
    (∀ (c : Nat) (p : List Byte) (rest : List Input), c ≤ 2 → p.length = 18 → failMask p = 0 →
      s.inputs = .host (launchAccess .readMeas) :: .transport (.okCount c) :: .settleElapsed ::
        .transport (.okBytes p) :: rest →
      core.run 4 s = .next { s with
        inputs := rest, opword := 0x00000007#32, done := true, err := .none,
        ioPhase := false, tripFail := 0, measValid := true, co2 := pattern p 0, temp := pattern p 1, rh := pattern p 2,
        payload0 := packWord p 0, payload1 := packWord p 4, payload2 := packWord p 8, payload3 := packWord p 12,
        payload4 := packLast p, txLen := 2#8, txCount := BitVec.ofNat 8 c, curOp := .readMeas, latW := 0#16,
        latA := s.arg, txbuf := f, rxlen := 18, settleTimer := none,
        history := s.history ++ [⟨.busWrite f, .answered (.okCount c)⟩, ⟨.busRead 18, .answered (.okBytes p)⟩] }) ∧
    (∀ (c : Nat) (p : List Byte) (rest : List Input), c ≤ 2 → p.length = 18 → failMask p ≠ 0 →
      s.inputs = .host (launchAccess .readMeas) :: .transport (.okCount c) :: .settleElapsed ::
        .transport (.okBytes p) :: rest →
      core.run 4 s = .next { s with
        inputs := rest, opword := 0x00000007#32, done := true, err := .corruptPayload,
        ioPhase := false, tripFail := failMask p, txLen := 2#8, txCount := BitVec.ofNat 8 c, curOp := .readMeas,
        latW := 0#16, latA := s.arg, txbuf := f, rxlen := 18, settleTimer := none,
        history := s.history ++ [⟨.busWrite f, .answered (.okCount c)⟩, ⟨.busRead 18, .answered (.okBytes p)⟩] }) ∧
    (∀ rest : List Input, s.inputs = .host (launchAccess .readMeas) :: .transport .err :: rest →
      core.run 2 s = .next { s with
        inputs := rest, opword := 0x00000007#32, done := true, err := .ioError,
        ioPhase := false, tripFail := 0, txLen := 2#8, txCount := 0#8, curOp := .readMeas, latW := 0#16,
        latA := s.arg, txbuf := f, rxlen := 18, settleTimer := none,
        history := s.history ++ [⟨.busWrite f, .answered .err⟩] }) ∧
    (∀ (c : Nat) (rest : List Input), c ≤ 2 →
      s.inputs = .host (launchAccess .readMeas) :: .transport (.okCount c) :: .settleElapsed :: .transport .err :: rest →
      core.run 4 s = .next { s with
        inputs := rest, opword := 0x00000007#32, done := true, err := .ioError,
        ioPhase := true, tripFail := 0, txLen := 2#8, txCount := BitVec.ofNat 8 c, curOp := .readMeas, latW := 0#16,
        latA := s.arg, txbuf := f, rxlen := 18, settleTimer := none,
        history := s.history ++ [⟨.busWrite f, .answered (.okCount c)⟩, ⟨.busRead 18, .answered .err⟩] })

/-- R154: changing one byte of a valid payload, checksum or data, makes READ_MEAS end with CORRUPT_PAYLOAD and names just the
triplet of that byte, with no result register changed. -/
def Obligations.SingleByteCorruptionIsRejected : Prop :=
  ∀ (s : State) (p : List Byte) (j : Nat) (b : Byte) (rest : List Input),
    s.phase = .rx → s.curOp = .readMeas → s.rxlen = 18 → p.length = 18 → failMask p = 0 → j < 18 →
    b ≠ p.getD j 0#8 → s.inputs = .transport (.okBytes (p.set j b)) :: rest →
    ∃ t, step s = .next t ∧ t.err = .corruptPayload ∧ t.tripFail.toNat = 2 ^ (j / 3) ∧ t.done = true ∧
      t.phase = .idle ∧ s.SameResults t

/-- R127, R126: the frame an accepted SEND_CMD_ARG asks the transport to write parses as its command and argument, and the frame
of SEND_CMD as its command. -/
def Obligations.FrameRoundTrip : Prop :=
  ∀ (s : State) (w : Half), s.phase = .idle → s.session = .opened →
    (∃ t f, exec (.sendCmdArg w) s = .next t ∧ t.request = some (.busWrite f) ∧ parseFrame f = .cmdArg w s.arg) ∧
    (∃ t f, exec (.sendCmd w) s = .next t ∧ t.request = some (.busWrite f) ∧ parseFrame f = .cmd w)

/-! ### Invariants -/

/-- R240: the three invariants hold right after reset.
The lengths of txbuf and of the read phase right after reset are the model's choice (log entry 6). -/
def Obligations.ResetMeetsTheInvariants : Prop :=
  State.reset.ControlInv ∧ State.reset.MeasInv ∧ State.reset.HistoryInv

/-- R23, R31, R33, R41, R210: every step keeps the control invariant.
After a reset the lengths of txbuf and of the read phase are the model's choice (log entry 6). -/
def Obligations.StepKeepsControl : Prop :=
  ∀ s t : State, s.ControlInv → step s = .next t → t.ControlInv

/-- R152, R174, R175: every step keeps it true that a measurement shown as valid is one whose stored payload passes all six checks
and whose three patterns are that payload's. -/
def Obligations.StoredMeasurementIsValidated : Prop :=
  ∀ s t : State, s.MeasInv → step s = .next t → t.MeasInv

/-- R58, R62, R63, R128: every step keeps the bus history well formed: whole frames of 2 or 5 bytes that parse, reads of 2 or 18
bytes, answers of their shape, every read directly after the successful write of its operation (an 18-byte read after the write
of MEAS_READ_ADDR), and in SETTLE and RX the write of the operation in flight as the last event.
When an event enters the history is log entry 9. -/
def Obligations.HistoryKeepsReadsAfterWrites : Prop :=
  ∀ s t : State, s.ControlInv → s.HistoryInv → step s = .next t → t.HistoryInv

/-! ### Whole-machine rules -/

/-- R26, R106: register CRC changes only by reset or by an accepted launch of CRC_INIT or CRC_FEED. -/
def Obligations.CrcChangesOnlyByChecksumOperations : Prop :=
  ∀ (s t : State) (x : Input) (rest : List Input), s.inputs = x :: rest → step s = .next t → x.isReset = false →
    t.crc ≠ s.crc → s.phase = .idle ∧ ∃ v, x = .host (.write .opword v) ∧
      (decodeWord v = some .crcInit ∨ ∃ b, decodeWord v = some (.crcFeed b))

/-- R106: no block step and no launch of a bus operation depends on register CRC: with another value in it the step does the same
and leaves that value. -/
def Obligations.BusOperationsIgnoreTheAccumulator : Prop :=
  ∀ (s t : State) (c : Byte),
    (∀ (x : Input) (rest : List Input), s.inputs = x :: rest → x.isReset = false → x.isHost = false → step s = .next t →
      step { s with crc := c } = .next { t with crc := c }) ∧
    (∀ i : Instr, i ≠ .crcInit → (∀ b, i ≠ .crcFeed b) → exec i s = .next t →
      exec i { s with crc := c } = .next { t with crc := c })

/-- R34: the operation in flight reads only its latched copies: a block step does the same whatever ARG and OPWORD hold. -/
def Obligations.BlockStepsIgnoreLiveRegisters : Prop :=
  ∀ (s t : State) (a : Half) (v : Word) (x : Input) (rest : List Input), s.inputs = x :: rest → x.isHost = false →
    x.isReset = false → step s = .next t →
    step { s with arg := a, opword := v } = .next { t with arg := a, opword := v }

/-- R42, R25, R28, R29, R219: no step but a reset or a read phase that completes with ERR = NONE changes a result register or a
VALID bit; RDATA and its VALID bit change by READ_REG only, CO2, TEMP, RH, PAYLOAD0 to PAYLOAD4 and MEAS_VALID by READ_MEAS
only, and each sets its VALID bit. -/
def Obligations.ResultsChangeOnlyAtSuccess : Prop :=
  ∀ (s t : State) (x : Input) (rest : List Input), s.inputs = x :: rest → step s = .next t → x.isReset = false →
    ¬ s.SameResults t →
    s.phase = .rx ∧ (∃ bs, x = .transport (.okBytes bs)) ∧ t.phase = .idle ∧ t.done = true ∧ t.err = .none ∧
      ((s.curOp = .readReg ∧ t.rdataValid = true ∧ t.measValid = s.measValid ∧ t.co2 = s.co2 ∧ t.temp = s.temp ∧
          t.rh = s.rh ∧ t.payload0 = s.payload0 ∧ t.payload1 = s.payload1 ∧ t.payload2 = s.payload2 ∧
          t.payload3 = s.payload3 ∧ t.payload4 = s.payload4) ∨
        (s.curOp = .readMeas ∧ t.measValid = true ∧ t.rdata = s.rdata ∧ t.rdataValid = s.rdataValid))

/-- R27: TXCOUNT changes only in the step that ends a write phase or by reset. -/
def Obligations.TxcountChangesOnlyInWritePhases : Prop :=
  ∀ (s t : State) (x : Input) (rest : List Input), s.inputs = x :: rest → step s = .next t → x.isReset = false →
    (t.txLen ≠ s.txLen ∨ t.txCount ≠ s.txCount) →
    s.phase = .tx ∧ t.txLen = BitVec.ofNat 8 s.txbuf.length ∧
      ((x = .transport .err ∧ t.txCount = 0#8) ∨
        ∃ c, x = .transport (.okCount c) ∧ c ≤ s.txbuf.length ∧ t.txCount = BitVec.ofNat 8 c)

/-- The model's own choice (log entries 4, 5 and 24), from R5, R41 and R54 to R56: with the control invariant, a step gives a next
state for every input but an answer to the outstanding request with a count or a number of bytes that R55 and R56 rule out, on
which it stops with the fault answerShape. No step is refused. -/
def Obligations.StepStopsOnlyOnDisallowedInputs : Prop :=
  ∀ (s : State) (x : Input) (rest : List Input), s.ControlInv → s.inputs = x :: rest →
    (inputBreaksShape s x = false → ∃ t, step s = .next t) ∧ (inputBreaksShape s x = true → step s = .fault .answerShape)

/-! ### Host accesses and registers -/

/-- R51, R30, R21, R28, R29, R60: a host read returns the register's value and changes nothing of the block; the registers that
are stored whole read as what they store, and a reserved index reads 0.
That the returned value stands in the field reads is the model's own record (log entry 10). -/
def Obligations.HostReadHasNoSideEffect : Prop :=
  (∀ (s : State) (r : HostReg) (rest : List Input), s.inputs = .host (.read r) :: rest →
    step s = .next { s with inputs := rest, reads := s.reads ++ [(r, s.hostValue r)] }) ∧
  (∀ s : State, s.hostValue .opword = s.opword ∧ s.hostValue .co2 = s.co2 ∧ s.hostValue .temp = s.temp ∧
    s.hostValue .rh = s.rh ∧ s.hostValue .payload0 = s.payload0 ∧ s.hostValue .payload1 = s.payload1 ∧
    s.hostValue .payload2 = s.payload2 ∧ s.hostValue .payload3 = s.payload3 ∧
    s.hostValue .reserved14 = 0 ∧ s.hostValue .reserved15 = 0)

/-- R24, R52: a host write of ARG stores its low half at once; one of STATUS clears OVR exactly when bit 2 is 1, ignores the other
bits and leaves the operation in flight alone; one of any other register but OPWORD is ignored. -/
def Obligations.HostWrites : Prop :=
  (∀ (s : State) (v : Word) (rest : List Input), s.inputs = .host (.write .arg v) :: rest →
    step s = .next { s with inputs := rest, arg := v.extractLsb' 0 16 }) ∧
  (∀ (s : State) (v : Word) (rest : List Input), s.inputs = .host (.write .status v) :: rest →
    step s = .next { s with inputs := rest, ovr := s.ovr && !(v.extractLsb' 2 1 == 1#1) }) ∧
  (∀ (s : State) (r : HostReg) (v : Word) (rest : List Input), s.inputs = .host (.write r v) :: rest →
    3 ≤ r.index.val → step s = .next { s with inputs := rest })

/-- R23, R210: the fields of STATUS at their bits, with the code numbers of the session and of the errors, and 0 in the reserved
bits. -/
def Obligations.StatusFieldPositions : Prop :=
  ∀ s : State,
    ((s.hostValue .status).getLsbD 0 = true ↔ s.phase ≠ .idle) ∧ (s.hostValue .status).getLsbD 1 = s.done ∧
    (s.hostValue .status).getLsbD 2 = s.ovr ∧ (s.hostValue .status).getLsbD 3 = s.rdataValid ∧
    (s.hostValue .status).getLsbD 4 = s.measValid ∧ (s.hostValue .status).getLsbD 5 = s.ioPhase ∧
    ((s.hostValue .status).extractLsb' 6 2).toNat =
      (match s.session with | .closed => 0 | .opened => 1 | .failed => 2) ∧
    ((s.hostValue .status).extractLsb' 8 4).toNat =
      (match s.err with
        | .none => 0 | .ioError => 1 | .corruptPayload => 2 | .openError => 3 | .notOpen => 4 | .illegalOp => 5) ∧
    (s.hostValue .status).extractLsb' 12 4 = 0#4 ∧ (s.hostValue .status).extractLsb' 16 6 = s.tripFail ∧
    (s.hostValue .status).extractLsb' 22 10 = 0#10

/-- R22, R25, R26, R27, R60: the narrow registers sit zero-extended in the low bits, and TXCOUNT is LEN above COUNT. -/
def Obligations.NarrowRegistersAreZeroExtended : Prop :=
  ∀ s : State, (s.hostValue .arg).toNat = s.arg.toNat ∧ (s.hostValue .rdata).toNat = s.rdata.toNat ∧
    (s.hostValue .crc).toNat = s.crc.toNat ∧ (s.hostValue .txcount).toNat = s.txLen.toNat * 256 + s.txCount.toNat

/-! ### Reset -/

/-- R240, R20: the reset input, in any state, gives every host register its reset value, closes the session, idles the sequencer
and stops the timer; so does the state right after reset. (The hidden latches, which R240 leaves unspecified, are not
mentioned.)
That a reset is one step is log entry 7. -/
def Obligations.ResetValues : Prop :=
  ∀ (s t : State) (cut : Nat) (rest : List Input), s.inputs = .reset cut :: rest →
    (t = State.reset ∨ step s = .next t) →
    t.hostValue .crc = 0x000000FF#32 ∧ (∀ r : HostReg, r ≠ .crc → t.hostValue r = 0#32) ∧ t.session = .closed ∧
      t.phase = .idle ∧ t.settleTimer = none

/-- R241: a reset in any state gives a next state; one that comes in a transaction records it as abandoned after any number of its
bytes and sets neither DONE nor ERR; one that comes in no transaction records nothing.
That a reset is one step, its draw, and what an abandoned request records are log entries 7 and 9. -/
def Obligations.ResetAbandonsTheTransaction : Prop :=
  ∀ (s : State) (cut : Nat) (rest : List Input), s.inputs = .reset cut :: rest →
    ∃ t, step s = .next t ∧ t.done = false ∧ t.err = .none ∧ t.phase = .idle ∧ t.inputs = rest ∧
      (s.phase = .tx → cut ≤ s.txbuf.length → t.history = s.history ++ [⟨.busWrite s.txbuf, .abandoned cut⟩]) ∧
      (s.phase = .rx → cut ≤ s.rxlen → t.history = s.history ++ [⟨.busRead s.rxlen, .abandoned cut⟩]) ∧
      (s.phase = .opening → t.history = s.history ++ [⟨.busOpen, .abandoned 0⟩]) ∧
      (s.phase = .idle ∨ s.phase = .settle → t.history = s.history)

/-! ### Values of patterns, and host sequences -/

/-- R173, R177: the worked example 300.5, the largest finite and the smallest subnormal pattern, the two zeros, an infinity and
the two kinds of NaN; and a pattern denotes a rational exactly when its exponent field is not 255.
The field layout is general knowledge (log entry 15). -/
def Obligations.PatternValues : Prop :=
  (floatValue 0x43964000#32).toRat = some (601 / 2) ∧ (floatValue 0x7F7FFFFF#32).toRat = some ((2 ^ 24 - 1) * 2 ^ 104) ∧
    (floatValue 0x00000001#32).toRat = some (1 / 2 ^ 149) ∧ floatValue 0x00000000#32 = .finite false 0 (-149) ∧
    floatValue 0x80000000#32 = .finite true 0 (-149) ∧ floatValue 0xFF800000#32 = .infinity true ∧
    floatValue 0x7FC00000#32 = .nan false true 0x400000#23 ∧ floatValue 0x7F800001#32 = .nan false false 0x000001#23 ∧
    (∀ v : Word, (floatValue v).toRat = none ↔ v.extractLsb' 23 8 = 255#8)

/-- R201, R194, R198: a refused or out-of-range setter returns false before any bus traffic: the machine's state is untouched.
The commands and kinds are D26's (log entry 20). -/
def Obligations.RefusedSettersSendNothing : Prop :=
  ∀ (s : State) (fuel : Nat),
    (∀ (safety : Bool) (ppm : Int), safety = false ∨ ppm < 400 ∨ 2000 < ppm →
      ∃ e, (setCalibrationReference safety ppm).run fuel 0 s = some e ∧ e.state = s ∧ e.result.success = false) ∧
    (∀ sec : Int, sec < 2 ∨ 1800 < sec →
      ∃ e, (setMeasurementInterval sec).run fuel 0 s = some e ∧ e.state = s ∧
        e.result = ⟨false, some .invalidArgument⟩)

/-- R194, R196, R198: each of the three setters, when it accepts its value, sends its 5-byte frame with the value and the checksum
of the value's two bytes, and returns true when the transport answers OK. setAutoSelfCalibration accepts both its values.
The commands and the value sent for false are D26's, the history is log entry 9, and WAIT is followed for a bounded number of
steps (log entries 16, 20 and 23). -/
def Obligations.AcceptedSettersSendTheFrame : Prop :=
  ∀ (s : State) (fuel c : Nat) (rest : List Input), s.phase = .idle → s.session = .opened → 0 < fuel → c ≤ 5 →
    s.inputs = .transport (.okCount c) :: rest →
    (∀ n : Nat, 400 ≤ n → n ≤ 2000 →
      ∃ e, (setCalibrationReference true n).run fuel 0 s = some e ∧ e.result = ⟨true, none⟩ ∧
        e.state.history = s.history ++ [⟨.busWrite [0x52#8, 0x04#8, BitVec.ofNat 8 (n / 256), BitVec.ofNat 8 n,
          crc8 [BitVec.ofNat 8 (n / 256), BitVec.ofNat 8 n]], .answered (.okCount c)⟩]) ∧
    (∀ n : Nat, 2 ≤ n → n ≤ 1800 →
      ∃ e, (setMeasurementInterval n).run fuel 0 s = some e ∧ e.result = ⟨true, none⟩ ∧
        e.state.history = s.history ++ [⟨.busWrite [0x46#8, 0x00#8, BitVec.ofNat 8 (n / 256), BitVec.ofNat 8 n,
          crc8 [BitVec.ofNat 8 (n / 256), BitVec.ofNat 8 n]], .answered (.okCount c)⟩]) ∧
    (∃ e, (setAutoSelfCalibration true).run fuel 0 s = some e ∧ e.result = ⟨true, none⟩ ∧
      e.state.history =
        s.history ++ [⟨.busWrite [0x53#8, 0x06#8, 0x00#8, 0x01#8, 0xB0#8], .answered (.okCount c)⟩]) ∧
    (∃ e, (setAutoSelfCalibration false).run fuel 0 s = some e ∧ e.result = ⟨true, none⟩ ∧
      e.state.history =
        s.history ++ [⟨.busWrite [0x53#8, 0x06#8, 0x00#8, 0x00#8, 0x81#8], .answered (.okCount c)⟩])

/-- R191: isDataReady is true exactly when the read succeeds with the value 1; a failed read, a failed write and a session that
is not open all give false.
WAIT is followed for a bounded number of steps, and the settle event is log entry 2 (log entries 2, 16, 20 and 23). -/
def Obligations.DataReadyOnlyForExactlyOne : Prop :=
  ∀ (s : State) (fuel : Nat), s.phase = .idle → 3 ≤ fuel →
    (∀ (c : Nat) (b0 b1 : Byte) (rest : List Input), s.session = .opened → c ≤ 2 →
      s.inputs = .transport (.okCount c) :: .settleElapsed :: .transport (.okBytes [b0, b1]) :: rest →
      ∃ e, isDataReady.run fuel 0 s = some e ∧ (e.result = true ↔ b0 = 0#8 ∧ b1 = 1#8)) ∧
    (∀ (c : Nat) (rest : List Input), s.session = .opened → c ≤ 2 →
      s.inputs = .transport (.okCount c) :: .settleElapsed :: .transport .err :: rest →
      ∃ e, isDataReady.run fuel 0 s = some e ∧ e.result = false) ∧
    (∀ rest : List Input, s.session = .opened → s.inputs = .transport .err :: rest →
      ∃ e, isDataReady.run fuel 0 s = some e ∧ e.result = false) ∧
    (s.session ≠ .opened → ∃ e, isDataReady.run fuel 0 s = some e ∧ e.result = false ∧ e.state.history = s.history)

/-! ### Events the block does not wait for -/

/-- R41, R251, R252: an event that the phase does not wait for changes nothing of the block: in every state, an answer of the
transport that answers no outstanding request (in IDLE and SETTLE any answer), and outside SETTLE the settle-elapsed event and a
tick of the timebase.
That an answer of another request's kind is none to the outstanding request is log entry 24. -/
def Obligations.EventsNotWaitedForChangeNothing : Prop :=
  (∀ (s : State) (a : Answer) (rest : List Input), s.inputs = .transport a :: rest →
    (∀ q, s.request = some q → a.answers q = false) → step s = .next { s with inputs := rest }) ∧
  (∀ (s : State) (a : Answer) (rest : List Input), s.inputs = .transport a :: rest → s.phase = .idle ∨ s.phase = .settle →
    step s = .next { s with inputs := rest }) ∧
  (∀ (s : State) (rest : List Input), s.phase ≠ .settle → s.inputs = .settleElapsed :: rest ∨ s.inputs = .tick :: rest →
    step s = .next { s with inputs := rest })
end

