-- ==== Sys2Proof/Laws/Crc8.lean ====
section
/-! SUPPORT. One round of the checksum is linear over GF(2), and so are any number of rounds (40_checksum.md R100, R103). -/

namespace Sys2Proof.Machine

theorem crc8Round_xor (x y : Byte) : crc8Round (x ^^^ y) = crc8Round x ^^^ crc8Round y := by
  unfold crc8Round
  rw [BitVec.msb_xor, BitVec.shiftLeft_xor_distrib]
  generalize x <<< 1 = a, y <<< 1 = b, Config.crcPoly = p
  cases x.msb <;> cases y.msb <;> apply BitVec.eq_of_getLsbD_eq <;> intro i _ <;>
    simp only [BitVec.getLsbD_xor, Bool.bne_false, Bool.not_true, Bool.not_false, Bool.xor_true, if_true, if_false,
      Bool.false_eq_true] <;>
    cases a.getLsbD i <;> cases b.getLsbD i <;> cases p.getLsbD i <;> rfl

theorem crc8Rounds_xor (n : Nat) (x y : Byte) : crc8Rounds n (x ^^^ y) = crc8Rounds n x ^^^ crc8Rounds n y := by
  induction n generalizing x y with
  | zero => rfl
  | succ n ih => simp only [crc8Rounds, crc8Round_xor, ih]

/-- A step depends on the accumulator and the byte through their exclusive or only. -/
theorem crc8Step_eq (acc b : Byte) : crc8Step acc b = crc8Rounds 8 (acc ^^^ b) := rfl

/-- One byte more at the end is one step more (R101). -/
theorem crc8_append (bytes : List Byte) (b : Byte) : crc8 (bytes ++ [b]) = crc8Step (crc8 bytes) b := by simp [crc8]

theorem crc8_two (b0 b1 : Byte) : crc8 [b0, b1] = crc8Step (crc8Step 0xFF#8 b0) b1 := rfl

end Sys2Proof.Machine
end

