-- ==== Sys2Proof/Laws/Encode.lean ====
section
/-! SUPPORT. The fields of an encoded operation word (30_encoding.md R70). -/

namespace Sys2Proof

@[simp] theorem fieldW_opwordOf (w : Half) (b : Byte) (op : BitVec 4) : fieldW (opwordOf w b op) = w := by
  apply BitVec.eq_of_getLsbD_eq
  intro i hi
  simp [fieldW, opwordOf, hi, show 16 + i < 32 by omega, show ¬ 16 + i < 16 by omega, show ¬ 16 + i < 8 by omega,
    BitVec.getLsbD_of_ge b (16 + i - 8) (by omega), BitVec.getLsbD_of_ge op (16 + i) (by omega)]

@[simp] theorem fieldB_opwordOf (w : Half) (b : Byte) (op : BitVec 4) : fieldB (opwordOf w b op) = b := by
  apply BitVec.eq_of_getLsbD_eq
  intro i hi
  simp [fieldB, opwordOf, hi, show 8 + i < 16 by omega, show 8 + i < 32 by omega, BitVec.getLsbD_of_ge op (8 + i) (by omega)]

@[simp] theorem fieldZ_opwordOf (w : Half) (b : Byte) (op : BitVec 4) : fieldZ (opwordOf w b op) = 0#4 := by
  apply BitVec.eq_of_getLsbD_eq
  intro i hi
  simp [fieldZ, opwordOf, show 4 + i < 16 by omega, show 4 + i < 8 by omega]

@[simp] theorem fieldOp_opwordOf (w : Half) (b : Byte) (op : BitVec 4) : fieldOp (opwordOf w b op) = op := by
  apply BitVec.eq_of_getLsbD_eq
  intro i hi
  simp [fieldOp, opwordOf, hi, show i < 16 by omega, show i < 8 by omega, show i < 32 by omega]

end Sys2Proof
end

