-- ==== Sys2Proof/Laws/Decode.lean ====
section
/-! SUPPORT. The fields of an operation word (30_encoding.md R70): a word is its four fields, and each row's mask and match of R71
is a condition on them (R72). -/

namespace Sys2Proof

@[simp] theorem fieldW_and (v m : Word) : fieldW (v &&& m) = fieldW v &&& fieldW m := by simp [fieldW, BitVec.extractLsb'_and]
@[simp] theorem fieldB_and (v m : Word) : fieldB (v &&& m) = fieldB v &&& fieldB m := by simp [fieldB, BitVec.extractLsb'_and]
@[simp] theorem fieldZ_and (v m : Word) : fieldZ (v &&& m) = fieldZ v &&& fieldZ m := by simp [fieldZ, BitVec.extractLsb'_and]
@[simp] theorem fieldOp_and (v m : Word) : fieldOp (v &&& m) = fieldOp v &&& fieldOp m := by
  simp [fieldOp, BitVec.extractLsb'_and]

/-- Two words with the same four fields are the same word. -/
theorem word_ext {u v : Word} (hw : fieldW u = fieldW v) (hb : fieldB u = fieldB v) (hz : fieldZ u = fieldZ v)
    (ho : fieldOp u = fieldOp v) : u = v := by
  have bit : ∀ {n : Nat} (k i : Nat), u.extractLsb' k n = v.extractLsb' k n → k ≤ i → i < k + n →
      u.getLsbD i = v.getLsbD i := by
    intro n k i h hk hi
    have e := congrArg (fun x => x.getLsbD (i - k)) h
    simpa [show i - k < n by omega, show k + (i - k) = i by omega] using e
  apply BitVec.eq_of_getLsbD_eq
  intro i hi
  rcases Nat.lt_or_ge i 4 with h | h
  · exact bit 0 i ho (by omega) (by omega)
  rcases Nat.lt_or_ge i 8 with h | h
  · exact bit 4 i hz (by omega) (by omega)
  rcases Nat.lt_or_ge i 16 with h | h
  · exact bit 8 i hb (by omega) (by omega)
  · exact bit 16 i hw (by omega) (by omega)

/-- A word whose bits 7:4 are 0 is put together again from its fields. -/
theorem opwordOf_fields {v : Word} (hz : fieldZ v = 0#4) : opwordOf (fieldW v) (fieldB v) (fieldOp v) = v := by
  apply word_ext <;> simp [hz]

/-- A match of R71 as conditions on the four fields. -/
theorem and_eq_iff_fields (v m p : Word) : v &&& m = p ↔
    fieldW v &&& fieldW m = fieldW p ∧ fieldB v &&& fieldB m = fieldB p ∧ fieldZ v &&& fieldZ m = fieldZ p ∧
      fieldOp v &&& fieldOp m = fieldOp p := by
  constructor
  · rintro rfl; simp
  · rintro ⟨hw, hb, hz, ho⟩; apply word_ext <;> simp [*]

/-- The rows whose mask is 0xFFFFFFFF: OP is the row's, and W, B and Z are 0. -/
theorem and_full_iff (v p : Word) : v &&& 0xFFFFFFFF#32 = p ↔ v = p := by
  rw [show (0xFFFFFFFF#32 : Word) = BitVec.allOnes 32 by decide, BitVec.and_allOnes]

/-- CRC_FEED's row: W and Z are 0. -/
theorem and_feed_iff (v : Word) : v &&& 0xFFFF00FF#32 = 0x00000002#32 ↔ fieldW v = 0#16 ∧ fieldZ v = 0#4 ∧ fieldOp v = 2#4 := by
  rw [and_eq_iff_fields]
  rw [show fieldW 0xFFFF00FF#32 = BitVec.allOnes 16 by decide, show fieldB 0xFFFF00FF#32 = 0#8 by decide,
    show fieldZ 0xFFFF00FF#32 = BitVec.allOnes 4 by decide, show fieldOp 0xFFFF00FF#32 = BitVec.allOnes 4 by decide,
    show fieldW 0x00000002#32 = 0#16 by decide, show fieldB 0x00000002#32 = 0#8 by decide,
    show fieldZ 0x00000002#32 = 0#4 by decide, show fieldOp 0x00000002#32 = 2#4 by decide]
  simp only [BitVec.and_allOnes, BitVec.and_zero, true_and]

/-- The rows with a W field: B and Z are 0. `p` is the row's match value, its OP alone. -/
theorem and_half_iff (v p : Word) (hw : fieldW p = 0#16) (hb : fieldB p = 0#8) (hz : fieldZ p = 0#4) :
    v &&& 0x0000FFFF#32 = p ↔ fieldB v = 0#8 ∧ fieldZ v = 0#4 ∧ fieldOp v = fieldOp p := by
  rw [and_eq_iff_fields, hw, hb, hz]
  rw [show fieldW 0x0000FFFF#32 = 0#16 by decide, show fieldB 0x0000FFFF#32 = BitVec.allOnes 8 by decide,
    show fieldZ 0x0000FFFF#32 = BitVec.allOnes 4 by decide, show fieldOp 0x0000FFFF#32 = BitVec.allOnes 4 by decide]
  simp only [BitVec.and_allOnes, BitVec.and_zero, true_and]

end Sys2Proof
end

