-- ==== Sys2Proof/Laws/History.lean ====
section
/-! SUPPORT. One event more at the end of a bus history (20_memory.md R58, R63). -/

namespace Sys2Proof.Machine

@[simp] theorem lastWrittenFrame_append (h : List BusEvent) (e : BusEvent) : lastWrittenFrame (h ++ [e]) = e.writtenFrame := by
  simp [lastWrittenFrame]

/-- Whether reads still follow their writes after one event more depends on that event and the last one before it. -/
theorem readsFollowWrites_append (h : List BusEvent) (prev : Option (List Byte)) (e : BusEvent) :
    readsFollowWrites prev (h ++ [e]) =
      (readsFollowWrites prev h && e.request.mayFollow (if h.isEmpty then prev else lastWrittenFrame h)) := by
  induction h generalizing prev with
  | nil => simp [readsFollowWrites]
  | cons x xs ih =>
    cases xs with
    | nil => simp [readsFollowWrites, lastWrittenFrame]
    | cons y ys =>
      have last : lastWrittenFrame (x :: y :: ys) = lastWrittenFrame (y :: ys) := by simp [lastWrittenFrame]
      rw [List.cons_append, readsFollowWrites, ih, last]
      simp [readsFollowWrites, Bool.and_assoc]

end Sys2Proof.Machine
end

