-- ==== Sys2Proof/Laws/State.lean ====
section
/-! SUPPORT. What each shared update of the state does to each field, one lemma per field, so that no later proof unfolds an
update. -/

namespace Sys2Proof.Machine

/-! ### complete: complete(e), R40 -/

@[simp] theorem State.complete_opword (s : State) (e : ErrCode) : (s.complete e).opword = s.opword := rfl
@[simp] theorem State.complete_arg (s : State) (e : ErrCode) : (s.complete e).arg = s.arg := rfl
@[simp] theorem State.complete_done (s : State) (e : ErrCode) : (s.complete e).done = true := rfl
@[simp] theorem State.complete_ovr (s : State) (e : ErrCode) : (s.complete e).ovr = s.ovr := rfl
@[simp] theorem State.complete_rdataValid (s : State) (e : ErrCode) : (s.complete e).rdataValid = s.rdataValid := rfl
@[simp] theorem State.complete_measValid (s : State) (e : ErrCode) : (s.complete e).measValid = s.measValid := rfl
@[simp] theorem State.complete_ioPhase (s : State) (e : ErrCode) : (s.complete e).ioPhase = s.ioPhase := rfl
@[simp] theorem State.complete_err (s : State) (e : ErrCode) : (s.complete e).err = e := rfl
@[simp] theorem State.complete_tripFail (s : State) (e : ErrCode) : (s.complete e).tripFail = s.tripFail := rfl
@[simp] theorem State.complete_rdata (s : State) (e : ErrCode) : (s.complete e).rdata = s.rdata := rfl
@[simp] theorem State.complete_crc (s : State) (e : ErrCode) : (s.complete e).crc = s.crc := rfl
@[simp] theorem State.complete_txCount (s : State) (e : ErrCode) : (s.complete e).txCount = s.txCount := rfl
@[simp] theorem State.complete_txLen (s : State) (e : ErrCode) : (s.complete e).txLen = s.txLen := rfl
@[simp] theorem State.complete_co2 (s : State) (e : ErrCode) : (s.complete e).co2 = s.co2 := rfl
@[simp] theorem State.complete_temp (s : State) (e : ErrCode) : (s.complete e).temp = s.temp := rfl
@[simp] theorem State.complete_rh (s : State) (e : ErrCode) : (s.complete e).rh = s.rh := rfl
@[simp] theorem State.complete_payload0 (s : State) (e : ErrCode) : (s.complete e).payload0 = s.payload0 := rfl
@[simp] theorem State.complete_payload1 (s : State) (e : ErrCode) : (s.complete e).payload1 = s.payload1 := rfl
@[simp] theorem State.complete_payload2 (s : State) (e : ErrCode) : (s.complete e).payload2 = s.payload2 := rfl
@[simp] theorem State.complete_payload3 (s : State) (e : ErrCode) : (s.complete e).payload3 = s.payload3 := rfl
@[simp] theorem State.complete_payload4 (s : State) (e : ErrCode) : (s.complete e).payload4 = s.payload4 := rfl
@[simp] theorem State.complete_session (s : State) (e : ErrCode) : (s.complete e).session = s.session := rfl
@[simp] theorem State.complete_phase (s : State) (e : ErrCode) : (s.complete e).phase = .idle := rfl
@[simp] theorem State.complete_curOp (s : State) (e : ErrCode) : (s.complete e).curOp = s.curOp := rfl
@[simp] theorem State.complete_latW (s : State) (e : ErrCode) : (s.complete e).latW = s.latW := rfl
@[simp] theorem State.complete_latA (s : State) (e : ErrCode) : (s.complete e).latA = s.latA := rfl
@[simp] theorem State.complete_txbuf (s : State) (e : ErrCode) : (s.complete e).txbuf = s.txbuf := rfl
@[simp] theorem State.complete_rxlen (s : State) (e : ErrCode) : (s.complete e).rxlen = s.rxlen := rfl
@[simp] theorem State.complete_settleTimer (s : State) (e : ErrCode) : (s.complete e).settleTimer = none := rfl
@[simp] theorem State.complete_history (s : State) (e : ErrCode) : (s.complete e).history = s.history := rfl
@[simp] theorem State.complete_reads (s : State) (e : ErrCode) : (s.complete e).reads = s.reads := rfl
@[simp] theorem State.complete_inputs (s : State) (e : ErrCode) : (s.complete e).inputs = s.inputs := rfl

/-! ### dropLaunch: the dropped launch, R36 -/

@[simp] theorem State.dropLaunch_opword (s : State) : (s.dropLaunch).opword = s.opword := rfl
@[simp] theorem State.dropLaunch_arg (s : State) : (s.dropLaunch).arg = s.arg := rfl
@[simp] theorem State.dropLaunch_done (s : State) : (s.dropLaunch).done = s.done := rfl
@[simp] theorem State.dropLaunch_ovr (s : State) : (s.dropLaunch).ovr = true := rfl
@[simp] theorem State.dropLaunch_rdataValid (s : State) : (s.dropLaunch).rdataValid = s.rdataValid := rfl
@[simp] theorem State.dropLaunch_measValid (s : State) : (s.dropLaunch).measValid = s.measValid := rfl
@[simp] theorem State.dropLaunch_ioPhase (s : State) : (s.dropLaunch).ioPhase = s.ioPhase := rfl
@[simp] theorem State.dropLaunch_err (s : State) : (s.dropLaunch).err = s.err := rfl
@[simp] theorem State.dropLaunch_tripFail (s : State) : (s.dropLaunch).tripFail = s.tripFail := rfl
@[simp] theorem State.dropLaunch_rdata (s : State) : (s.dropLaunch).rdata = s.rdata := rfl
@[simp] theorem State.dropLaunch_crc (s : State) : (s.dropLaunch).crc = s.crc := rfl
@[simp] theorem State.dropLaunch_txCount (s : State) : (s.dropLaunch).txCount = s.txCount := rfl
@[simp] theorem State.dropLaunch_txLen (s : State) : (s.dropLaunch).txLen = s.txLen := rfl
@[simp] theorem State.dropLaunch_co2 (s : State) : (s.dropLaunch).co2 = s.co2 := rfl
@[simp] theorem State.dropLaunch_temp (s : State) : (s.dropLaunch).temp = s.temp := rfl
@[simp] theorem State.dropLaunch_rh (s : State) : (s.dropLaunch).rh = s.rh := rfl
@[simp] theorem State.dropLaunch_payload0 (s : State) : (s.dropLaunch).payload0 = s.payload0 := rfl
@[simp] theorem State.dropLaunch_payload1 (s : State) : (s.dropLaunch).payload1 = s.payload1 := rfl
@[simp] theorem State.dropLaunch_payload2 (s : State) : (s.dropLaunch).payload2 = s.payload2 := rfl
@[simp] theorem State.dropLaunch_payload3 (s : State) : (s.dropLaunch).payload3 = s.payload3 := rfl
@[simp] theorem State.dropLaunch_payload4 (s : State) : (s.dropLaunch).payload4 = s.payload4 := rfl
@[simp] theorem State.dropLaunch_session (s : State) : (s.dropLaunch).session = s.session := rfl
@[simp] theorem State.dropLaunch_phase (s : State) : (s.dropLaunch).phase = s.phase := rfl
@[simp] theorem State.dropLaunch_curOp (s : State) : (s.dropLaunch).curOp = s.curOp := rfl
@[simp] theorem State.dropLaunch_latW (s : State) : (s.dropLaunch).latW = s.latW := rfl
@[simp] theorem State.dropLaunch_latA (s : State) : (s.dropLaunch).latA = s.latA := rfl
@[simp] theorem State.dropLaunch_txbuf (s : State) : (s.dropLaunch).txbuf = s.txbuf := rfl
@[simp] theorem State.dropLaunch_rxlen (s : State) : (s.dropLaunch).rxlen = s.rxlen := rfl
@[simp] theorem State.dropLaunch_settleTimer (s : State) : (s.dropLaunch).settleTimer = s.settleTimer := rfl
@[simp] theorem State.dropLaunch_history (s : State) : (s.dropLaunch).history = s.history := rfl
@[simp] theorem State.dropLaunch_reads (s : State) : (s.dropLaunch).reads = s.reads := rfl
@[simp] theorem State.dropLaunch_inputs (s : State) : (s.dropLaunch).inputs = s.inputs := rfl

/-! ### acceptLaunch: the accepted launch, R37 -/

@[simp] theorem State.acceptLaunch_opword (s : State) (v : Word) : (s.acceptLaunch v).opword = v := rfl
@[simp] theorem State.acceptLaunch_arg (s : State) (v : Word) : (s.acceptLaunch v).arg = s.arg := rfl
@[simp] theorem State.acceptLaunch_done (s : State) (v : Word) : (s.acceptLaunch v).done = false := rfl
@[simp] theorem State.acceptLaunch_ovr (s : State) (v : Word) : (s.acceptLaunch v).ovr = s.ovr := rfl
@[simp] theorem State.acceptLaunch_rdataValid (s : State) (v : Word) : (s.acceptLaunch v).rdataValid = s.rdataValid := rfl
@[simp] theorem State.acceptLaunch_measValid (s : State) (v : Word) : (s.acceptLaunch v).measValid = s.measValid := rfl
@[simp] theorem State.acceptLaunch_ioPhase (s : State) (v : Word) : (s.acceptLaunch v).ioPhase = false := rfl
@[simp] theorem State.acceptLaunch_err (s : State) (v : Word) : (s.acceptLaunch v).err = .none := rfl
@[simp] theorem State.acceptLaunch_tripFail (s : State) (v : Word) : (s.acceptLaunch v).tripFail = 0 := rfl
@[simp] theorem State.acceptLaunch_rdata (s : State) (v : Word) : (s.acceptLaunch v).rdata = s.rdata := rfl
@[simp] theorem State.acceptLaunch_crc (s : State) (v : Word) : (s.acceptLaunch v).crc = s.crc := rfl
@[simp] theorem State.acceptLaunch_txCount (s : State) (v : Word) : (s.acceptLaunch v).txCount = s.txCount := rfl
@[simp] theorem State.acceptLaunch_txLen (s : State) (v : Word) : (s.acceptLaunch v).txLen = s.txLen := rfl
@[simp] theorem State.acceptLaunch_co2 (s : State) (v : Word) : (s.acceptLaunch v).co2 = s.co2 := rfl
@[simp] theorem State.acceptLaunch_temp (s : State) (v : Word) : (s.acceptLaunch v).temp = s.temp := rfl
@[simp] theorem State.acceptLaunch_rh (s : State) (v : Word) : (s.acceptLaunch v).rh = s.rh := rfl
@[simp] theorem State.acceptLaunch_payload0 (s : State) (v : Word) : (s.acceptLaunch v).payload0 = s.payload0 := rfl
@[simp] theorem State.acceptLaunch_payload1 (s : State) (v : Word) : (s.acceptLaunch v).payload1 = s.payload1 := rfl
@[simp] theorem State.acceptLaunch_payload2 (s : State) (v : Word) : (s.acceptLaunch v).payload2 = s.payload2 := rfl
@[simp] theorem State.acceptLaunch_payload3 (s : State) (v : Word) : (s.acceptLaunch v).payload3 = s.payload3 := rfl
@[simp] theorem State.acceptLaunch_payload4 (s : State) (v : Word) : (s.acceptLaunch v).payload4 = s.payload4 := rfl
@[simp] theorem State.acceptLaunch_session (s : State) (v : Word) : (s.acceptLaunch v).session = s.session := rfl
@[simp] theorem State.acceptLaunch_phase (s : State) (v : Word) : (s.acceptLaunch v).phase = s.phase := rfl
@[simp] theorem State.acceptLaunch_curOp (s : State) (v : Word) : (s.acceptLaunch v).curOp = s.curOp := rfl
@[simp] theorem State.acceptLaunch_latW (s : State) (v : Word) : (s.acceptLaunch v).latW = s.latW := rfl
@[simp] theorem State.acceptLaunch_latA (s : State) (v : Word) : (s.acceptLaunch v).latA = s.latA := rfl
@[simp] theorem State.acceptLaunch_txbuf (s : State) (v : Word) : (s.acceptLaunch v).txbuf = s.txbuf := rfl
@[simp] theorem State.acceptLaunch_rxlen (s : State) (v : Word) : (s.acceptLaunch v).rxlen = s.rxlen := rfl
@[simp] theorem State.acceptLaunch_settleTimer (s : State) (v : Word) : (s.acceptLaunch v).settleTimer = s.settleTimer := rfl
@[simp] theorem State.acceptLaunch_history (s : State) (v : Word) : (s.acceptLaunch v).history = s.history := rfl
@[simp] theorem State.acceptLaunch_reads (s : State) (v : Word) : (s.acceptLaunch v).reads = s.reads := rfl
@[simp] theorem State.acceptLaunch_inputs (s : State) (v : Word) : (s.acceptLaunch v).inputs = s.inputs := rfl

/-! ### startOp: the start of a bus operation, R39 -/

@[simp] theorem State.startOp_opword (s : State) (op : BusOp) (p : Phase) : (s.startOp op p).opword = s.opword := rfl
@[simp] theorem State.startOp_arg (s : State) (op : BusOp) (p : Phase) : (s.startOp op p).arg = s.arg := rfl
@[simp] theorem State.startOp_done (s : State) (op : BusOp) (p : Phase) : (s.startOp op p).done = s.done := rfl
@[simp] theorem State.startOp_ovr (s : State) (op : BusOp) (p : Phase) : (s.startOp op p).ovr = s.ovr := rfl
@[simp] theorem State.startOp_rdataValid (s : State) (op : BusOp) (p : Phase) : (s.startOp op p).rdataValid = s.rdataValid := rfl
@[simp] theorem State.startOp_measValid (s : State) (op : BusOp) (p : Phase) : (s.startOp op p).measValid = s.measValid := rfl
@[simp] theorem State.startOp_ioPhase (s : State) (op : BusOp) (p : Phase) : (s.startOp op p).ioPhase = s.ioPhase := rfl
@[simp] theorem State.startOp_err (s : State) (op : BusOp) (p : Phase) : (s.startOp op p).err = s.err := rfl
@[simp] theorem State.startOp_tripFail (s : State) (op : BusOp) (p : Phase) : (s.startOp op p).tripFail = s.tripFail := rfl
@[simp] theorem State.startOp_rdata (s : State) (op : BusOp) (p : Phase) : (s.startOp op p).rdata = s.rdata := rfl
@[simp] theorem State.startOp_crc (s : State) (op : BusOp) (p : Phase) : (s.startOp op p).crc = s.crc := rfl
@[simp] theorem State.startOp_txCount (s : State) (op : BusOp) (p : Phase) : (s.startOp op p).txCount = s.txCount := rfl
@[simp] theorem State.startOp_txLen (s : State) (op : BusOp) (p : Phase) : (s.startOp op p).txLen = s.txLen := rfl
@[simp] theorem State.startOp_co2 (s : State) (op : BusOp) (p : Phase) : (s.startOp op p).co2 = s.co2 := rfl
@[simp] theorem State.startOp_temp (s : State) (op : BusOp) (p : Phase) : (s.startOp op p).temp = s.temp := rfl
@[simp] theorem State.startOp_rh (s : State) (op : BusOp) (p : Phase) : (s.startOp op p).rh = s.rh := rfl
@[simp] theorem State.startOp_payload0 (s : State) (op : BusOp) (p : Phase) : (s.startOp op p).payload0 = s.payload0 := rfl
@[simp] theorem State.startOp_payload1 (s : State) (op : BusOp) (p : Phase) : (s.startOp op p).payload1 = s.payload1 := rfl
@[simp] theorem State.startOp_payload2 (s : State) (op : BusOp) (p : Phase) : (s.startOp op p).payload2 = s.payload2 := rfl
@[simp] theorem State.startOp_payload3 (s : State) (op : BusOp) (p : Phase) : (s.startOp op p).payload3 = s.payload3 := rfl
@[simp] theorem State.startOp_payload4 (s : State) (op : BusOp) (p : Phase) : (s.startOp op p).payload4 = s.payload4 := rfl
@[simp] theorem State.startOp_session (s : State) (op : BusOp) (p : Phase) : (s.startOp op p).session = s.session := rfl
@[simp] theorem State.startOp_phase (s : State) (op : BusOp) (p : Phase) : (s.startOp op p).phase = p := rfl
@[simp] theorem State.startOp_curOp (s : State) (op : BusOp) (p : Phase) : (s.startOp op p).curOp = op := rfl
@[simp] theorem State.startOp_latW (s : State) (op : BusOp) (p : Phase) : (s.startOp op p).latW = fieldW s.opword := rfl
@[simp] theorem State.startOp_latA (s : State) (op : BusOp) (p : Phase) : (s.startOp op p).latA = s.arg := rfl
@[simp] theorem State.startOp_txbuf (s : State) (op : BusOp) (p : Phase) : (s.startOp op p).txbuf = s.txbuf := rfl
@[simp] theorem State.startOp_rxlen (s : State) (op : BusOp) (p : Phase) : (s.startOp op p).rxlen = s.rxlen := rfl
@[simp] theorem State.startOp_settleTimer (s : State) (op : BusOp) (p : Phase) : (s.startOp op p).settleTimer = s.settleTimer := rfl
@[simp] theorem State.startOp_history (s : State) (op : BusOp) (p : Phase) : (s.startOp op p).history = s.history := rfl
@[simp] theorem State.startOp_reads (s : State) (op : BusOp) (p : Phase) : (s.startOp op p).reads = s.reads := rfl
@[simp] theorem State.startOp_inputs (s : State) (op : BusOp) (p : Phase) : (s.startOp op p).inputs = s.inputs := rfl

/-! ### startTx: the start of a write phase, R39 -/

@[simp] theorem State.startTx_opword (s : State) (op : BusOp) (f : List Byte) (n : Nat) : (s.startTx op f n).opword = s.opword := rfl
@[simp] theorem State.startTx_arg (s : State) (op : BusOp) (f : List Byte) (n : Nat) : (s.startTx op f n).arg = s.arg := rfl
@[simp] theorem State.startTx_done (s : State) (op : BusOp) (f : List Byte) (n : Nat) : (s.startTx op f n).done = s.done := rfl
@[simp] theorem State.startTx_ovr (s : State) (op : BusOp) (f : List Byte) (n : Nat) : (s.startTx op f n).ovr = s.ovr := rfl
@[simp] theorem State.startTx_rdataValid (s : State) (op : BusOp) (f : List Byte) (n : Nat) : (s.startTx op f n).rdataValid = s.rdataValid := rfl
@[simp] theorem State.startTx_measValid (s : State) (op : BusOp) (f : List Byte) (n : Nat) : (s.startTx op f n).measValid = s.measValid := rfl
@[simp] theorem State.startTx_ioPhase (s : State) (op : BusOp) (f : List Byte) (n : Nat) : (s.startTx op f n).ioPhase = s.ioPhase := rfl
@[simp] theorem State.startTx_err (s : State) (op : BusOp) (f : List Byte) (n : Nat) : (s.startTx op f n).err = s.err := rfl
@[simp] theorem State.startTx_tripFail (s : State) (op : BusOp) (f : List Byte) (n : Nat) : (s.startTx op f n).tripFail = s.tripFail := rfl
@[simp] theorem State.startTx_rdata (s : State) (op : BusOp) (f : List Byte) (n : Nat) : (s.startTx op f n).rdata = s.rdata := rfl
@[simp] theorem State.startTx_crc (s : State) (op : BusOp) (f : List Byte) (n : Nat) : (s.startTx op f n).crc = s.crc := rfl
@[simp] theorem State.startTx_txCount (s : State) (op : BusOp) (f : List Byte) (n : Nat) : (s.startTx op f n).txCount = s.txCount := rfl
@[simp] theorem State.startTx_txLen (s : State) (op : BusOp) (f : List Byte) (n : Nat) : (s.startTx op f n).txLen = s.txLen := rfl
@[simp] theorem State.startTx_co2 (s : State) (op : BusOp) (f : List Byte) (n : Nat) : (s.startTx op f n).co2 = s.co2 := rfl
@[simp] theorem State.startTx_temp (s : State) (op : BusOp) (f : List Byte) (n : Nat) : (s.startTx op f n).temp = s.temp := rfl
@[simp] theorem State.startTx_rh (s : State) (op : BusOp) (f : List Byte) (n : Nat) : (s.startTx op f n).rh = s.rh := rfl
@[simp] theorem State.startTx_payload0 (s : State) (op : BusOp) (f : List Byte) (n : Nat) : (s.startTx op f n).payload0 = s.payload0 := rfl
@[simp] theorem State.startTx_payload1 (s : State) (op : BusOp) (f : List Byte) (n : Nat) : (s.startTx op f n).payload1 = s.payload1 := rfl
@[simp] theorem State.startTx_payload2 (s : State) (op : BusOp) (f : List Byte) (n : Nat) : (s.startTx op f n).payload2 = s.payload2 := rfl
@[simp] theorem State.startTx_payload3 (s : State) (op : BusOp) (f : List Byte) (n : Nat) : (s.startTx op f n).payload3 = s.payload3 := rfl
@[simp] theorem State.startTx_payload4 (s : State) (op : BusOp) (f : List Byte) (n : Nat) : (s.startTx op f n).payload4 = s.payload4 := rfl
@[simp] theorem State.startTx_session (s : State) (op : BusOp) (f : List Byte) (n : Nat) : (s.startTx op f n).session = s.session := rfl
@[simp] theorem State.startTx_phase (s : State) (op : BusOp) (f : List Byte) (n : Nat) : (s.startTx op f n).phase = .tx := rfl
@[simp] theorem State.startTx_curOp (s : State) (op : BusOp) (f : List Byte) (n : Nat) : (s.startTx op f n).curOp = op := rfl
@[simp] theorem State.startTx_latW (s : State) (op : BusOp) (f : List Byte) (n : Nat) : (s.startTx op f n).latW = fieldW s.opword := rfl
@[simp] theorem State.startTx_latA (s : State) (op : BusOp) (f : List Byte) (n : Nat) : (s.startTx op f n).latA = s.arg := rfl
@[simp] theorem State.startTx_txbuf (s : State) (op : BusOp) (f : List Byte) (n : Nat) : (s.startTx op f n).txbuf = f := rfl
@[simp] theorem State.startTx_rxlen (s : State) (op : BusOp) (f : List Byte) (n : Nat) : (s.startTx op f n).rxlen = n := rfl
@[simp] theorem State.startTx_settleTimer (s : State) (op : BusOp) (f : List Byte) (n : Nat) : (s.startTx op f n).settleTimer = s.settleTimer := rfl
@[simp] theorem State.startTx_history (s : State) (op : BusOp) (f : List Byte) (n : Nat) : (s.startTx op f n).history = s.history := rfl
@[simp] theorem State.startTx_reads (s : State) (op : BusOp) (f : List Byte) (n : Nat) : (s.startTx op f n).reads = s.reads := rfl
@[simp] theorem State.startTx_inputs (s : State) (op : BusOp) (f : List Byte) (n : Nat) : (s.startTx op f n).inputs = s.inputs := rfl

/-! ### record: one event more, R58 -/

@[simp] theorem State.record_opword (s : State) (e : BusEvent) : (s.record e).opword = s.opword := rfl
@[simp] theorem State.record_arg (s : State) (e : BusEvent) : (s.record e).arg = s.arg := rfl
@[simp] theorem State.record_done (s : State) (e : BusEvent) : (s.record e).done = s.done := rfl
@[simp] theorem State.record_ovr (s : State) (e : BusEvent) : (s.record e).ovr = s.ovr := rfl
@[simp] theorem State.record_rdataValid (s : State) (e : BusEvent) : (s.record e).rdataValid = s.rdataValid := rfl
@[simp] theorem State.record_measValid (s : State) (e : BusEvent) : (s.record e).measValid = s.measValid := rfl
@[simp] theorem State.record_ioPhase (s : State) (e : BusEvent) : (s.record e).ioPhase = s.ioPhase := rfl
@[simp] theorem State.record_err (s : State) (e : BusEvent) : (s.record e).err = s.err := rfl
@[simp] theorem State.record_tripFail (s : State) (e : BusEvent) : (s.record e).tripFail = s.tripFail := rfl
@[simp] theorem State.record_rdata (s : State) (e : BusEvent) : (s.record e).rdata = s.rdata := rfl
@[simp] theorem State.record_crc (s : State) (e : BusEvent) : (s.record e).crc = s.crc := rfl
@[simp] theorem State.record_txCount (s : State) (e : BusEvent) : (s.record e).txCount = s.txCount := rfl
@[simp] theorem State.record_txLen (s : State) (e : BusEvent) : (s.record e).txLen = s.txLen := rfl
@[simp] theorem State.record_co2 (s : State) (e : BusEvent) : (s.record e).co2 = s.co2 := rfl
@[simp] theorem State.record_temp (s : State) (e : BusEvent) : (s.record e).temp = s.temp := rfl
@[simp] theorem State.record_rh (s : State) (e : BusEvent) : (s.record e).rh = s.rh := rfl
@[simp] theorem State.record_payload0 (s : State) (e : BusEvent) : (s.record e).payload0 = s.payload0 := rfl
@[simp] theorem State.record_payload1 (s : State) (e : BusEvent) : (s.record e).payload1 = s.payload1 := rfl
@[simp] theorem State.record_payload2 (s : State) (e : BusEvent) : (s.record e).payload2 = s.payload2 := rfl
@[simp] theorem State.record_payload3 (s : State) (e : BusEvent) : (s.record e).payload3 = s.payload3 := rfl
@[simp] theorem State.record_payload4 (s : State) (e : BusEvent) : (s.record e).payload4 = s.payload4 := rfl
@[simp] theorem State.record_session (s : State) (e : BusEvent) : (s.record e).session = s.session := rfl
@[simp] theorem State.record_phase (s : State) (e : BusEvent) : (s.record e).phase = s.phase := rfl
@[simp] theorem State.record_curOp (s : State) (e : BusEvent) : (s.record e).curOp = s.curOp := rfl
@[simp] theorem State.record_latW (s : State) (e : BusEvent) : (s.record e).latW = s.latW := rfl
@[simp] theorem State.record_latA (s : State) (e : BusEvent) : (s.record e).latA = s.latA := rfl
@[simp] theorem State.record_txbuf (s : State) (e : BusEvent) : (s.record e).txbuf = s.txbuf := rfl
@[simp] theorem State.record_rxlen (s : State) (e : BusEvent) : (s.record e).rxlen = s.rxlen := rfl
@[simp] theorem State.record_settleTimer (s : State) (e : BusEvent) : (s.record e).settleTimer = s.settleTimer := rfl
@[simp] theorem State.record_history (s : State) (e : BusEvent) : (s.record e).history = s.history ++ [e] := rfl
@[simp] theorem State.record_reads (s : State) (e : BusEvent) : (s.record e).reads = s.reads := rfl
@[simp] theorem State.record_inputs (s : State) (e : BusEvent) : (s.record e).inputs = s.inputs := rfl

/-! ### hostRead: a host read, R51 -/

@[simp] theorem State.hostRead_opword (s : State) (r : HostReg) : (s.hostRead r).opword = s.opword := rfl
@[simp] theorem State.hostRead_arg (s : State) (r : HostReg) : (s.hostRead r).arg = s.arg := rfl
@[simp] theorem State.hostRead_done (s : State) (r : HostReg) : (s.hostRead r).done = s.done := rfl
@[simp] theorem State.hostRead_ovr (s : State) (r : HostReg) : (s.hostRead r).ovr = s.ovr := rfl
@[simp] theorem State.hostRead_rdataValid (s : State) (r : HostReg) : (s.hostRead r).rdataValid = s.rdataValid := rfl
@[simp] theorem State.hostRead_measValid (s : State) (r : HostReg) : (s.hostRead r).measValid = s.measValid := rfl
@[simp] theorem State.hostRead_ioPhase (s : State) (r : HostReg) : (s.hostRead r).ioPhase = s.ioPhase := rfl
@[simp] theorem State.hostRead_err (s : State) (r : HostReg) : (s.hostRead r).err = s.err := rfl
@[simp] theorem State.hostRead_tripFail (s : State) (r : HostReg) : (s.hostRead r).tripFail = s.tripFail := rfl
@[simp] theorem State.hostRead_rdata (s : State) (r : HostReg) : (s.hostRead r).rdata = s.rdata := rfl
@[simp] theorem State.hostRead_crc (s : State) (r : HostReg) : (s.hostRead r).crc = s.crc := rfl
@[simp] theorem State.hostRead_txCount (s : State) (r : HostReg) : (s.hostRead r).txCount = s.txCount := rfl
@[simp] theorem State.hostRead_txLen (s : State) (r : HostReg) : (s.hostRead r).txLen = s.txLen := rfl
@[simp] theorem State.hostRead_co2 (s : State) (r : HostReg) : (s.hostRead r).co2 = s.co2 := rfl
@[simp] theorem State.hostRead_temp (s : State) (r : HostReg) : (s.hostRead r).temp = s.temp := rfl
@[simp] theorem State.hostRead_rh (s : State) (r : HostReg) : (s.hostRead r).rh = s.rh := rfl
@[simp] theorem State.hostRead_payload0 (s : State) (r : HostReg) : (s.hostRead r).payload0 = s.payload0 := rfl
@[simp] theorem State.hostRead_payload1 (s : State) (r : HostReg) : (s.hostRead r).payload1 = s.payload1 := rfl
@[simp] theorem State.hostRead_payload2 (s : State) (r : HostReg) : (s.hostRead r).payload2 = s.payload2 := rfl
@[simp] theorem State.hostRead_payload3 (s : State) (r : HostReg) : (s.hostRead r).payload3 = s.payload3 := rfl
@[simp] theorem State.hostRead_payload4 (s : State) (r : HostReg) : (s.hostRead r).payload4 = s.payload4 := rfl
@[simp] theorem State.hostRead_session (s : State) (r : HostReg) : (s.hostRead r).session = s.session := rfl
@[simp] theorem State.hostRead_phase (s : State) (r : HostReg) : (s.hostRead r).phase = s.phase := rfl
@[simp] theorem State.hostRead_curOp (s : State) (r : HostReg) : (s.hostRead r).curOp = s.curOp := rfl
@[simp] theorem State.hostRead_latW (s : State) (r : HostReg) : (s.hostRead r).latW = s.latW := rfl
@[simp] theorem State.hostRead_latA (s : State) (r : HostReg) : (s.hostRead r).latA = s.latA := rfl
@[simp] theorem State.hostRead_txbuf (s : State) (r : HostReg) : (s.hostRead r).txbuf = s.txbuf := rfl
@[simp] theorem State.hostRead_rxlen (s : State) (r : HostReg) : (s.hostRead r).rxlen = s.rxlen := rfl
@[simp] theorem State.hostRead_settleTimer (s : State) (r : HostReg) : (s.hostRead r).settleTimer = s.settleTimer := rfl
@[simp] theorem State.hostRead_history (s : State) (r : HostReg) : (s.hostRead r).history = s.history := rfl
@[simp] theorem State.hostRead_reads (s : State) (r : HostReg) : (s.hostRead r).reads = s.reads ++ [(r, s.hostValue r)] := rfl
@[simp] theorem State.hostRead_inputs (s : State) (r : HostReg) : (s.hostRead r).inputs = s.inputs := rfl

/-! ### withInputs: what the agents do next -/

@[simp] theorem State.withInputs_opword (s : State) (xs : List Input) : (s.withInputs xs).opword = s.opword := rfl
@[simp] theorem State.withInputs_arg (s : State) (xs : List Input) : (s.withInputs xs).arg = s.arg := rfl
@[simp] theorem State.withInputs_done (s : State) (xs : List Input) : (s.withInputs xs).done = s.done := rfl
@[simp] theorem State.withInputs_ovr (s : State) (xs : List Input) : (s.withInputs xs).ovr = s.ovr := rfl
@[simp] theorem State.withInputs_rdataValid (s : State) (xs : List Input) : (s.withInputs xs).rdataValid = s.rdataValid := rfl
@[simp] theorem State.withInputs_measValid (s : State) (xs : List Input) : (s.withInputs xs).measValid = s.measValid := rfl
@[simp] theorem State.withInputs_ioPhase (s : State) (xs : List Input) : (s.withInputs xs).ioPhase = s.ioPhase := rfl
@[simp] theorem State.withInputs_err (s : State) (xs : List Input) : (s.withInputs xs).err = s.err := rfl
@[simp] theorem State.withInputs_tripFail (s : State) (xs : List Input) : (s.withInputs xs).tripFail = s.tripFail := rfl
@[simp] theorem State.withInputs_rdata (s : State) (xs : List Input) : (s.withInputs xs).rdata = s.rdata := rfl
@[simp] theorem State.withInputs_crc (s : State) (xs : List Input) : (s.withInputs xs).crc = s.crc := rfl
@[simp] theorem State.withInputs_txCount (s : State) (xs : List Input) : (s.withInputs xs).txCount = s.txCount := rfl
@[simp] theorem State.withInputs_txLen (s : State) (xs : List Input) : (s.withInputs xs).txLen = s.txLen := rfl
@[simp] theorem State.withInputs_co2 (s : State) (xs : List Input) : (s.withInputs xs).co2 = s.co2 := rfl
@[simp] theorem State.withInputs_temp (s : State) (xs : List Input) : (s.withInputs xs).temp = s.temp := rfl
@[simp] theorem State.withInputs_rh (s : State) (xs : List Input) : (s.withInputs xs).rh = s.rh := rfl
@[simp] theorem State.withInputs_payload0 (s : State) (xs : List Input) : (s.withInputs xs).payload0 = s.payload0 := rfl
@[simp] theorem State.withInputs_payload1 (s : State) (xs : List Input) : (s.withInputs xs).payload1 = s.payload1 := rfl
@[simp] theorem State.withInputs_payload2 (s : State) (xs : List Input) : (s.withInputs xs).payload2 = s.payload2 := rfl
@[simp] theorem State.withInputs_payload3 (s : State) (xs : List Input) : (s.withInputs xs).payload3 = s.payload3 := rfl
@[simp] theorem State.withInputs_payload4 (s : State) (xs : List Input) : (s.withInputs xs).payload4 = s.payload4 := rfl
@[simp] theorem State.withInputs_session (s : State) (xs : List Input) : (s.withInputs xs).session = s.session := rfl
@[simp] theorem State.withInputs_phase (s : State) (xs : List Input) : (s.withInputs xs).phase = s.phase := rfl
@[simp] theorem State.withInputs_curOp (s : State) (xs : List Input) : (s.withInputs xs).curOp = s.curOp := rfl
@[simp] theorem State.withInputs_latW (s : State) (xs : List Input) : (s.withInputs xs).latW = s.latW := rfl
@[simp] theorem State.withInputs_latA (s : State) (xs : List Input) : (s.withInputs xs).latA = s.latA := rfl
@[simp] theorem State.withInputs_txbuf (s : State) (xs : List Input) : (s.withInputs xs).txbuf = s.txbuf := rfl
@[simp] theorem State.withInputs_rxlen (s : State) (xs : List Input) : (s.withInputs xs).rxlen = s.rxlen := rfl
@[simp] theorem State.withInputs_settleTimer (s : State) (xs : List Input) : (s.withInputs xs).settleTimer = s.settleTimer := rfl
@[simp] theorem State.withInputs_history (s : State) (xs : List Input) : (s.withInputs xs).history = s.history := rfl
@[simp] theorem State.withInputs_reads (s : State) (xs : List Input) : (s.withInputs xs).reads = s.reads := rfl
@[simp] theorem State.withInputs_inputs (s : State) (xs : List Input) : (s.withInputs xs).inputs = xs := rfl

/-! ### resetBlock: the reset input, R240 and R241 -/

@[simp] theorem State.resetBlock_opword (s : State) (cut : Nat) : (s.resetBlock cut).opword = State.reset.opword := rfl
@[simp] theorem State.resetBlock_arg (s : State) (cut : Nat) : (s.resetBlock cut).arg = State.reset.arg := rfl
@[simp] theorem State.resetBlock_done (s : State) (cut : Nat) : (s.resetBlock cut).done = State.reset.done := rfl
@[simp] theorem State.resetBlock_ovr (s : State) (cut : Nat) : (s.resetBlock cut).ovr = State.reset.ovr := rfl
@[simp] theorem State.resetBlock_rdataValid (s : State) (cut : Nat) : (s.resetBlock cut).rdataValid = State.reset.rdataValid := rfl
@[simp] theorem State.resetBlock_measValid (s : State) (cut : Nat) : (s.resetBlock cut).measValid = State.reset.measValid := rfl
@[simp] theorem State.resetBlock_ioPhase (s : State) (cut : Nat) : (s.resetBlock cut).ioPhase = State.reset.ioPhase := rfl
@[simp] theorem State.resetBlock_err (s : State) (cut : Nat) : (s.resetBlock cut).err = State.reset.err := rfl
@[simp] theorem State.resetBlock_tripFail (s : State) (cut : Nat) : (s.resetBlock cut).tripFail = State.reset.tripFail := rfl
@[simp] theorem State.resetBlock_rdata (s : State) (cut : Nat) : (s.resetBlock cut).rdata = State.reset.rdata := rfl
@[simp] theorem State.resetBlock_crc (s : State) (cut : Nat) : (s.resetBlock cut).crc = State.reset.crc := rfl
@[simp] theorem State.resetBlock_txCount (s : State) (cut : Nat) : (s.resetBlock cut).txCount = State.reset.txCount := rfl
@[simp] theorem State.resetBlock_txLen (s : State) (cut : Nat) : (s.resetBlock cut).txLen = State.reset.txLen := rfl
@[simp] theorem State.resetBlock_co2 (s : State) (cut : Nat) : (s.resetBlock cut).co2 = State.reset.co2 := rfl
@[simp] theorem State.resetBlock_temp (s : State) (cut : Nat) : (s.resetBlock cut).temp = State.reset.temp := rfl
@[simp] theorem State.resetBlock_rh (s : State) (cut : Nat) : (s.resetBlock cut).rh = State.reset.rh := rfl
@[simp] theorem State.resetBlock_payload0 (s : State) (cut : Nat) : (s.resetBlock cut).payload0 = State.reset.payload0 := rfl
@[simp] theorem State.resetBlock_payload1 (s : State) (cut : Nat) : (s.resetBlock cut).payload1 = State.reset.payload1 := rfl
@[simp] theorem State.resetBlock_payload2 (s : State) (cut : Nat) : (s.resetBlock cut).payload2 = State.reset.payload2 := rfl
@[simp] theorem State.resetBlock_payload3 (s : State) (cut : Nat) : (s.resetBlock cut).payload3 = State.reset.payload3 := rfl
@[simp] theorem State.resetBlock_payload4 (s : State) (cut : Nat) : (s.resetBlock cut).payload4 = State.reset.payload4 := rfl
@[simp] theorem State.resetBlock_session (s : State) (cut : Nat) : (s.resetBlock cut).session = State.reset.session := rfl
@[simp] theorem State.resetBlock_phase (s : State) (cut : Nat) : (s.resetBlock cut).phase = State.reset.phase := rfl
@[simp] theorem State.resetBlock_curOp (s : State) (cut : Nat) : (s.resetBlock cut).curOp = State.reset.curOp := rfl
@[simp] theorem State.resetBlock_latW (s : State) (cut : Nat) : (s.resetBlock cut).latW = State.reset.latW := rfl
@[simp] theorem State.resetBlock_latA (s : State) (cut : Nat) : (s.resetBlock cut).latA = State.reset.latA := rfl
@[simp] theorem State.resetBlock_txbuf (s : State) (cut : Nat) : (s.resetBlock cut).txbuf = State.reset.txbuf := rfl
@[simp] theorem State.resetBlock_rxlen (s : State) (cut : Nat) : (s.resetBlock cut).rxlen = State.reset.rxlen := rfl
@[simp] theorem State.resetBlock_settleTimer (s : State) (cut : Nat) : (s.resetBlock cut).settleTimer = State.reset.settleTimer := rfl
@[simp] theorem State.resetBlock_history (s : State) (cut : Nat) : (s.resetBlock cut).history = s.history ++ s.abandonedEvents cut := rfl
@[simp] theorem State.resetBlock_reads (s : State) (cut : Nat) : (s.resetBlock cut).reads = s.reads := rfl
@[simp] theorem State.resetBlock_inputs (s : State) (cut : Nat) : (s.resetBlock cut).inputs = s.inputs := rfl

end Sys2Proof.Machine
end

