-- ==== Sys2Proof/Laws/Ops.lean ====
section
/-! SUPPORT. What the shared operations of Machine/Ops.lean can do, one lemma each, and the small lemmas of the byte, frame and
status helpers. Later proofs cite these and do not unfold the operations. -/

namespace Sys2Proof.Machine

/-! ### BUSY -/

@[simp] theorem State.busy_eq_false (s : State) : s.busy = false ↔ s.phase = .idle := by
  unfold State.busy; cases s.phase <;> simp

@[simp] theorem State.busy_eq_true (s : State) : s.busy = true ↔ s.phase ≠ .idle := by
  unfold State.busy; cases s.phase <;> simp

/-! ### Launches -/

theorem launch_of_idle {s : State} (h : s.phase = .idle) (v : Word) (body : State → Result) :
    launch v body s = body (s.acceptLaunch v) := by
  simp [launch, h]

theorem launch_of_busy {s : State} (h : s.phase ≠ .idle) (v : Word) (body : State → Result) :
    launch v body s = .next s.dropLaunch := by
  simp [launch, h]

/-- A launch that answers a next state was dropped, or was accepted and dispatched. -/
theorem launch_next {v : Word} {body : State → Result} {s t : State} (h : launch v body s = .next t) :
    (s.phase ≠ .idle ∧ t = s.dropLaunch) ∨ (s.phase = .idle ∧ body (s.acceptLaunch v) = .next t) := by
  by_cases hp : s.phase = .idle
  · exact .inr ⟨hp, by rwa [launch_of_idle hp] at h⟩
  · rw [launch_of_busy hp] at h
    exact .inl ⟨hp, (Host.Outcome.next.inj h).symm⟩

/-- The session checks answer OPEN_ERROR, NOT_OPEN or the start of the operation (R38). -/
theorem busGate_next {start : State → State} {s t : State} (h : busGate start s = .next t) :
    (s.session = .failed ∧ t = s.complete .openError) ∨ (s.session = .closed ∧ t = s.complete .notOpen) ∨
      (s.session = .opened ∧ t = start s) := by
  unfold busGate at h
  split at h <;> cases h <;> simp_all

theorem busGate_of_opened {start : State → State} {s : State} (h : s.session = .opened) :
    busGate start s = .next (start s) := by
  simp [busGate, h]

/-! ### Bytes, frames and patterns -/

theorem toNat_halfOf (b0 b1 : Byte) : (halfOf b0 b1).toNat = b0.toNat * 256 + b1.toNat := by
  have h0 := b0.isLt
  have h1 := b1.isLt
  have h : (b0.setWidth 16 <<< 8 : Half).toNat = b0.toNat <<< 8 := by
    simp [BitVec.toNat_shiftLeft, Nat.shiftLeft_eq]; omega
  have e : (halfOf b0 b1).toNat = b0.toNat <<< 8 ||| b1.toNat := by
    unfold halfOf
    rw [BitVec.toNat_or, h, BitVec.toNat_setWidth, Nat.mod_eq_of_lt (by omega)]
  rw [e, ← Nat.shiftLeft_add_eq_or_of_lt h1, Nat.shiftLeft_eq]

theorem toNat_wordOf (h0 h1 : Half) : (wordOf h0 h1).toNat = h0.toNat * 65536 + h1.toNat := by
  have l0 := h0.isLt
  have l1 := h1.isLt
  have h : (h0.setWidth 32 <<< 16 : Word).toNat = h0.toNat <<< 16 := by
    simp [BitVec.toNat_shiftLeft, Nat.shiftLeft_eq]; omega
  have e : (wordOf h0 h1).toNat = h0.toNat <<< 16 ||| h1.toNat := by
    unfold wordOf
    rw [BitVec.toNat_or, h, BitVec.toNat_setWidth, Nat.mod_eq_of_lt (by omega)]
  rw [e, ← Nat.shiftLeft_add_eq_or_of_lt l1, Nat.shiftLeft_eq]

theorem toNat_hiByte (w : Half) : (hiByte w).toNat = w.toNat / 256 := by
  have := w.isLt
  simp [hiByte, BitVec.extractLsb'_toNat, Nat.shiftRight_eq_div_pow]; omega

theorem toNat_loByte (w : Half) : (loByte w).toNat = w.toNat % 256 := by
  simp [loByte, BitVec.extractLsb'_toNat]

/-- The two bytes of a 16-bit value, read back big-endian (R59). -/
@[simp] theorem halfOf_hiByte_loByte (w : Half) : halfOf (hiByte w) (loByte w) = w := by
  apply BitVec.eq_of_toNat_eq
  rw [toNat_halfOf, toNat_hiByte, toNat_loByte]
  omega

@[simp] theorem hiByte_halfOf (b0 b1 : Byte) : hiByte (halfOf b0 b1) = b0 := by
  apply BitVec.eq_of_toNat_eq
  have := b1.isLt
  rw [toNat_hiByte, toNat_halfOf]
  omega

@[simp] theorem loByte_halfOf (b0 b1 : Byte) : loByte (halfOf b0 b1) = b1 := by
  apply BitVec.eq_of_toNat_eq
  have := b1.isLt
  rw [toNat_loByte, toNat_halfOf]
  omega

@[simp] theorem length_frameF2 (w : Half) : (frameF2 w).length = 2 := rfl

@[simp] theorem length_frameF5 (w a : Half) : (frameF5 w a).length = 5 := rfl

end Sys2Proof.Machine
end

