-- ==== Sys2Proof/Laws/Moves.lean ====
section
/-! SUPPORT. Everything one step can do, said once: `Moved s x t` lists the next states that the input `x` can lead to, with the
conditions under which it does, and `step_moved` is the inversion lemma that proofs over all steps cite. -/

namespace Sys2Proof.Machine

/-- The next states of an input, one constructor per case of the spec's step relation (R36 to R41, R52, R240). -/
inductive Moved (s : State) : Input → State → Prop where
  | read (r : HostReg) : Moved s (.host (.read r)) (s.hostRead r)
  | writeArg (v : Word) : Moved s (.host (.write .arg v)) { s with arg := lowHalf v }
  | clearOvr (v : Word) (hv : v.getLsbD 2 = true) : Moved s (.host (.write .status v)) { s with ovr := false }
  | keepOvr (v : Word) (hv : v.getLsbD 2 = false) : Moved s (.host (.write .status v)) s
  | ignored (r : HostReg) (v : Word) (h : r ≠ .opword ∧ r ≠ .arg ∧ r ≠ .status) : Moved s (.host (.write r v)) s
  | dropped (v : Word) (h : s.phase ≠ .idle) : Moved s (.host (.write .opword v)) s.dropLaunch
  | illegal (v : Word) (h : s.phase = .idle) (hd : decodeWord v = none) :
      Moved s (.host (.write .opword v)) ((s.acceptLaunch v).complete .illegalOp)
  | crcInit (v : Word) (h : s.phase = .idle) (hd : decodeWord v = some .crcInit) :
      Moved s (.host (.write .opword v)) (crcInitEffect (s.acceptLaunch (encode .crcInit)))
  | crcFeed (v : Word) (b : Byte) (h : s.phase = .idle) (hd : decodeWord v = some (.crcFeed b)) :
      Moved s (.host (.write .opword v)) (crcFeedEffect b (s.acceptLaunch (encode (.crcFeed b))))
  | sessionFailed (v : Word) (i : Instr) (h : s.phase = .idle) (hd : decodeWord v = some i) (hs : s.session = .failed) :
      Moved s (.host (.write .opword v)) ((s.acceptLaunch (encode i)).complete .openError)
  | sessionClosed (v : Word) (i : Instr) (h : s.phase = .idle) (hd : decodeWord v = some i) (hs : s.session = .closed) :
      Moved s (.host (.write .opword v)) ((s.acceptLaunch (encode i)).complete .notOpen)
  | alreadyOpen (v : Word) (h : s.phase = .idle) (hd : decodeWord v = some .openSession) (hs : s.session = .opened) :
      Moved s (.host (.write .opword v)) ((s.acceptLaunch (encode .openSession)).complete .none)
  | startOpen (v : Word) (h : s.phase = .idle) (hd : decodeWord v = some .openSession) (hs : s.session = .closed) :
      Moved s (.host (.write .opword v)) ((s.acceptLaunch (encode .openSession)).startOp .openSession .opening)
  | startReadReg (v : Word) (w : Half) (h : s.phase = .idle) (hd : decodeWord v = some (.readReg w))
      (hs : s.session = .opened) :
      Moved s (.host (.write .opword v)) (startReadReg (s.acceptLaunch (encode (.readReg w))))
  | startSendCmd (v : Word) (w : Half) (h : s.phase = .idle) (hd : decodeWord v = some (.sendCmd w))
      (hs : s.session = .opened) :
      Moved s (.host (.write .opword v)) (startSendCmd (s.acceptLaunch (encode (.sendCmd w))))
  | startSendCmdArg (v : Word) (w : Half) (h : s.phase = .idle) (hd : decodeWord v = some (.sendCmdArg w))
      (hs : s.session = .opened) :
      Moved s (.host (.write .opword v)) (startSendCmdArg (s.acceptLaunch (encode (.sendCmdArg w))))
  | startReadMeas (v : Word) (h : s.phase = .idle) (hd : decodeWord v = some .readMeas) (hs : s.session = .opened) :
      Moved s (.host (.write .opword v)) (startReadMeas (s.acceptLaunch (encode .readMeas)))
  | openingOk (h : s.phase = .opening) : Moved s (.transport .ok) (openingOk s)
  | openingErr (h : s.phase = .opening) : Moved s (.transport .err) (openingErr s)
  | txErr (h : s.phase = .tx) : Moved s (.transport .err) (txErr s)
  | txToSettle (c : Nat) (h : s.phase = .tx) (hc : c ≤ s.txbuf.length) (hr : 0 < s.rxlen) :
      Moved s (.transport (.okCount c)) (enterSettle (txReport (.okCount c) c s))
  | txDone (c : Nat) (h : s.phase = .tx) (hc : c ≤ s.txbuf.length) (hr : s.rxlen = 0) :
      Moved s (.transport (.okCount c)) ((txReport (.okCount c) c s).complete .none)
  | rxErr (h : s.phase = .rx) : Moved s (.transport .err) (rxErr s)
  | readRegRx (bs : List Byte) (h : s.phase = .rx) (hl : bs.length = s.rxlen) (ho : s.curOp = .readReg) :
      Moved s (.transport (.okBytes bs)) (readRegRx bs s)
  | measAccepted (p : List Byte) (h : s.phase = .rx) (hl : p.length = s.rxlen) (ho : s.curOp = .readMeas)
      (hm : failMask p = 0) :
      Moved s (.transport (.okBytes p)) ((loadMeasurement p (rxReport (.okBytes p) s)).complete .none)
  | measRejected (p : List Byte) (h : s.phase = .rx) (hl : p.length = s.rxlen) (ho : s.curOp = .readMeas)
      (hm : failMask p ≠ 0) :
      Moved s (.transport (.okBytes p)) ({ rxReport (.okBytes p) s with tripFail := failMask p }.complete .corruptPayload)
  | answerUnheard (a : Answer) (h : ∀ q, s.request = some q → a.answers q = false) : Moved s (.transport a) s
  | settleElapsedUnheard (h : s.phase ≠ .settle) : Moved s .settleElapsed s
  | tickUnheard (h : s.phase ≠ .settle ∨ s.settleTimer = none) : Moved s .tick s
  | tickCounts (n : Nat) (h : s.phase = .settle) (ht : s.settleTimer = some n) (hn : 1 < n) :
      Moved s .tick { s with settleTimer := some (n - 1) }
  | tickLeaves (n : Nat) (h : s.phase = .settle) (ht : s.settleTimer = some n) (hn : n ≤ 1) : Moved s .tick (leaveSettle s)
  | settleElapsed (h : s.phase = .settle) : Moved s .settleElapsed (leaveSettle s)
  | reset (cut : Nat) : Moved s (.reset cut) (s.resetBlock cut)

theorem launchWord_moved {v : Word} {s t : State} (h : launchWord v s = .next t) :
    Moved s (.host (.write .opword v)) t := by
  unfold launchWord at h
  cases hd : decodeWord v with
  | none =>
    simp only [hd] at h
    obtain ⟨hp, rfl⟩ | ⟨hp, h⟩ := launch_next h
    · exact .dropped v hp
    · cases h; exact .illegal v hp hd
  | some i =>
    simp only [hd] at h
    have gate : ∀ {start : State → State}, busGate start (s.acceptLaunch (encode i)) = .next t → s.phase = .idle →
        (s.session = .opened → t = start (s.acceptLaunch (encode i)) → Moved s (.host (.write .opword v)) t) →
        Moved s (.host (.write .opword v)) t := by
      intro start hg hp k
      obtain ⟨hs, rfl⟩ | ⟨hs, rfl⟩ | ⟨hs, e⟩ := busGate_next hg
      · exact .sessionFailed v i hp hd hs
      · exact .sessionClosed v i hp hd hs
      · exact k hs e
    cases i with
    | crcInit =>
      simp only [exec, execCrcInit] at h
      obtain ⟨hp, rfl⟩ | ⟨hp, h⟩ := launch_next h
      · exact .dropped v hp
      · cases h; exact .crcInit v hp hd
    | crcFeed b =>
      simp only [exec, execCrcFeed] at h
      obtain ⟨hp, rfl⟩ | ⟨hp, h⟩ := launch_next h
      · exact .dropped v hp
      · cases h; exact .crcFeed v b hp hd
    | openSession =>
      obtain ⟨hp, rfl⟩ | ⟨hp, h⟩ := launch_next h
      · exact .dropped v hp
      · unfold openDispatch at h
        split at h <;> cases h
        · exact .sessionFailed v _ hp hd (by assumption)
        · exact .alreadyOpen v hp hd (by assumption)
        · exact .startOpen v hp hd (by assumption)
    | readReg w =>
      obtain ⟨hp, rfl⟩ | ⟨hp, h⟩ := launch_next h
      · exact .dropped v hp
      · exact gate h hp fun hs e => e ▸ .startReadReg v w hp hd hs
    | sendCmd w =>
      obtain ⟨hp, rfl⟩ | ⟨hp, h⟩ := launch_next h
      · exact .dropped v hp
      · exact gate h hp fun hs e => e ▸ .startSendCmd v w hp hd hs
    | sendCmdArg w =>
      obtain ⟨hp, rfl⟩ | ⟨hp, h⟩ := launch_next h
      · exact .dropped v hp
      · exact gate h hp fun hs e => e ▸ .startSendCmdArg v w hp hd hs
    | readMeas =>
      obtain ⟨hp, rfl⟩ | ⟨hp, h⟩ := launch_next h
      · exact .dropped v hp
      · exact gate h hp fun hs e => e ▸ .startReadMeas v hp hd hs

theorem writeStatus_moved (v : Word) (s : State) : Moved s (.host (.write .status v)) (writeStatus v s) := by
  unfold writeStatus
  split
  · exact .clearOvr v (by assumption)
  · exact .keepOvr v (by simp_all)

theorem tickStep_moved (s : State) : Moved s .tick (tickStep s) := by
  unfold tickStep
  split
  · split
    · exact .tickLeaves _ (by assumption) (by assumption) (by assumption)
    · exact .tickCounts _ (by assumption) (by assumption) (by omega)
  · rename_i h
    refine .tickUnheard ?_
    cases ht : s.settleTimer with
    | none => exact .inr rfl
    | some n => exact .inl fun hp => h n hp ht

theorem transportStep_moved {a : Answer} {s t : State} (h : transportStep a s = .next t) : Moved s (.transport a) t := by
  have unheard : (Host.Outcome.next s : Result) = .next t →
      (∀ q, s.request = some q → a.answers q = false) → Moved s (.transport a) t := by
    intro e k
    cases e
    exact .answerUnheard a k
  unfold transportStep at h
  split at h <;> rename_i hp
  · exact unheard h (by simp [State.request, hp])
  · cases a <;> simp only [openingStep] at h
    · cases h; exact .openingOk hp
    · exact unheard h (by simp [State.request, hp, Answer.answers])
    · exact unheard h (by simp [State.request, hp, Answer.answers])
    · cases h; exact .openingErr hp
  · cases a with
    | okCount c =>
      simp only [txStep] at h
      split at h <;> cases h
      unfold txOk
      split
      · exact .txToSettle c (by assumption) (by assumption) (by assumption)
      · exact .txDone c (by assumption) (by assumption) (by omega)
    | err => cases h; exact .txErr (by assumption)
    | ok => exact unheard h (by simp [State.request, hp, Answer.answers])
    | okBytes bs => exact unheard h (by simp [State.request, hp, Answer.answers])
  · exact unheard h (by simp [State.request, hp])
  · cases a with
    | okBytes bs =>
      simp only [rxStep] at h
      split at h
      · unfold rxOkStep at h
        split at h <;> cases h
        · exact .readRegRx bs (by assumption) (by assumption) (by assumption)
        · unfold readMeasRx
          split
          · exact .measAccepted bs (by assumption) (by assumption) (by assumption) (by assumption)
          · exact .measRejected bs (by assumption) (by assumption) (by assumption) (by assumption)
      · cases h
    | err => cases h; exact .rxErr (by assumption)
    | ok => exact unheard h (by simp [State.request, hp, Answer.answers])
    | okCount c => exact unheard h (by simp [State.request, hp, Answer.answers])

/-- Everything an input can do when it gives a next state. -/
theorem inputStep_moved {x : Input} {s t : State} (h : inputStep x s = .next t) : Moved s x t := by
  cases x with
  | host a =>
    cases a with
    | read r => cases h; exact .read r
    | write r v =>
      cases r with
      | opword => exact launchWord_moved h
      | arg => cases h; exact .writeArg v
      | status => cases h; exact writeStatus_moved v s
      | _ => cases h; exact .ignored _ v (by decide)
  | transport a => exact transportStep_moved h
  | tick => cases h; exact tickStep_moved s
  | settleElapsed =>
    simp only [inputStep, settleElapsedStep] at h
    split at h <;> cases h <;> rename_i hp
    · exact .settleElapsedUnheard (by simp [hp])
    · exact .settleElapsedUnheard (by simp [hp])
    · exact .settleElapsedUnheard (by simp [hp])
    · exact .settleElapsed hp
    · exact .settleElapsedUnheard (by simp [hp])
  | reset cut => cases h; exact .reset cut

theorem step_of_inputs {s : State} {x : Input} {rest : List Input} (h : s.inputs = x :: rest) :
    step s = inputStep x (s.withInputs rest) := by
  simp [step, nextInput, h]

theorem step_of_no_inputs {s : State} (h : s.inputs = []) : step s = .next s := by
  simp [step, nextInput, h]

/-- Everything a step can do: with no input nothing happens, else the next input is taken and acted on. -/
theorem step_moved {s t : State} (h : step s = .next t) :
    (s.inputs = [] ∧ t = s) ∨ ∃ x rest, s.inputs = x :: rest ∧ Moved (s.withInputs rest) x t := by
  cases hi : s.inputs with
  | nil =>
    rw [step_of_no_inputs hi] at h
    exact .inl ⟨rfl, (Host.Outcome.next.inj h).symm⟩
  | cons x rest =>
    rw [step_of_inputs hi] at h
    exact .inr ⟨x, rest, rfl, inputStep_moved h⟩

end Sys2Proof.Machine
end

