-- ==== Sys2Proof/Laws/PerInstr.lean ====
section
/-! SUPPORT. The family EncodeFields: what the four fields of each operation's own word hold (30_encoding.md R70 to R72, R80). -/

namespace Sys2Proof.Laws.EncodeFields

/-- The OP code of each operation (R71). -/
def opCode : Instr → BitVec 4
  | .crcInit => 1#4
  | .crcFeed _ => 2#4
  | .openSession => 3#4
  | .readReg _ => 4#4
  | .sendCmd _ => 5#4
  | .sendCmdArg _ => 6#4
  | .readMeas => 7#4

/-- The W field of each operation's word: its operand, or 0 where the operation does not use it (R72). -/
def wField : Instr → Half
  | .crcInit => 0#16
  | .crcFeed _ => 0#16
  | .openSession => 0#16
  | .readReg w => w
  | .sendCmd w => w
  | .sendCmdArg w => w
  | .readMeas => 0#16

/-- The B field of each operation's word (R72). -/
def bField : Instr → Byte
  | .crcInit => 0#8
  | .crcFeed b => b
  | .openSession => 0#8
  | .readReg _ => 0#8
  | .sendCmd _ => 0#8
  | .sendCmdArg _ => 0#8
  | .readMeas => 0#8

/-- The fields of an operation's word. -/
def Statement (i : Instr) : Prop :=
  fieldOp (encode i) = opCode i ∧ fieldZ (encode i) = 0#4 ∧ fieldB (encode i) = bField i ∧ fieldW (encode i) = wField i

theorem crcInit : Statement .crcInit := by simp [Statement, encode, opCode, wField, bField]
theorem crcFeed (b : Byte) : Statement (.crcFeed b) := by simp [Statement, encode, opCode, wField, bField]
theorem openSession : Statement .openSession := by simp [Statement, encode, opCode, wField, bField]
theorem readReg (w : Half) : Statement (.readReg w) := by simp [Statement, encode, opCode, wField, bField]
theorem sendCmd (w : Half) : Statement (.sendCmd w) := by simp [Statement, encode, opCode, wField, bField]
theorem sendCmdArg (w : Half) : Statement (.sendCmdArg w) := by simp [Statement, encode, opCode, wField, bField]
theorem readMeas : Statement .readMeas := by simp [Statement, encode, opCode, wField, bField]

end Sys2Proof.Laws.EncodeFields
end

