-- ==== Sys2Proof/Laws/Status.lean ====
section
/-! SUPPORT. The bits of STATUS and of the narrow registers as the host reads them (10_state.md R23, R60). -/

namespace Sys2Proof.Machine

/-- A field of STATUS at its place, bit by bit. -/
theorem getLsbD_statusField {w : Nat} (v : BitVec w) (n i : Nat) :
    (statusField v n).getLsbD i = (decide (i < 32) && decide (n ≤ i) && v.getLsbD (i - n)) := by
  unfold statusField
  rw [BitVec.getLsbD_shiftLeft, BitVec.getLsbD_setWidth]
  by_cases h : i < 32
  · by_cases hn : n ≤ i
    · simp [h, hn, show i - n < 32 by omega]
    · simp [h, hn]
  · simp [h]

/-- The same for a bit below 32. -/
theorem getElem_statusField {w : Nat} (v : BitVec w) (n i : Nat) (h : i < 32) :
    (statusField v n)[i] = (decide (n ≤ i) && v.getLsbD (i - n)) := by
  rw [← BitVec.getLsbD_eq_getElem, getLsbD_statusField]
  simp [h]

@[simp] theorem State.hostValue_status (s : State) : s.hostValue .status = s.statusWord := rfl

/-- Bit 2 of a word, as a host write of STATUS tests it (R24). -/
theorem extract_bit_eq (v : Word) (n : Nat) : (v.extractLsb' n 1 == 1#1) = v.getLsbD n := by
  have h : (v.extractLsb' n 1).getLsbD 0 = v.getLsbD n := by simp
  cases e : v.getLsbD n
  · rw [e] at h
    have : v.extractLsb' n 1 = 0#1 := by
      apply BitVec.eq_of_getLsbD_eq
      intro i hi
      obtain rfl : i = 0 := by omega
      rw [h]; decide
    rw [this]; decide
  · rw [e] at h
    have : v.extractLsb' n 1 = 1#1 := by
      apply BitVec.eq_of_getLsbD_eq
      intro i hi
      obtain rfl : i = 0 := by omega
      rw [h]; decide
    rw [this]; decide

end Sys2Proof.Machine
end

