-- ==== Sys2Proof/Machine/Assembler.lean ====
section
/-! DEFINITION. Host programs as text (30_encoding.md R80, R81): reading one line, and running a program of lines on the machine.
A line is a mnemonic, in any case, and operands separated by commas; an operand is a number in decimal or in hexadecimal with
`0x`, or a register by name or index. What R80 does not say (blanks, the case of register names) is log entry 19. -/

namespace Sys2Proof.Machine

/-! ### Characters, words and numbers -/

/-- A blank between the parts of a line. -/
def isBlank (c : Char) : Bool := c == ' ' || c == '\t'

/-- A mnemonic in capitals: "Mnemonics are case-insensitive" (R80). -/
def capitals (cs : List Char) : List Char := cs.map Char.toUpper

/-- The text without the blanks around it. -/
def trimBlanks (cs : List Char) : List Char := ((cs.dropWhile isBlank).reverse.dropWhile isBlank).reverse

/-- The text before and after each comma. -/
def splitCommas : List Char → List (List Char)
  | [] => [[]]
  | c :: cs =>
    match splitCommas cs with
    | [] => [[c]]
    | w :: ws => if c == ',' then [] :: w :: ws else (c :: w) :: ws

/-- The operands of a line: none if there is no text, else the texts between the commas. -/
def operandTexts (cs : List Char) : List (List Char) :=
  if (trimBlanks cs).isEmpty then [] else (splitCommas cs).map trimBlanks

/-- A decimal digit. -/
def decDigit (c : Char) : Option Nat :=
  if '0'.toNat ≤ c.toNat ∧ c.toNat ≤ '9'.toNat then some (c.toNat - '0'.toNat) else none

/-- A hexadecimal digit, in either case. -/
def hexDigit (c : Char) : Option Nat :=
  if 'a'.toNat ≤ c.toNat ∧ c.toNat ≤ 'f'.toNat then some (c.toNat - 'a'.toNat + 10)
  else if 'A'.toNat ≤ c.toNat ∧ c.toNat ≤ 'F'.toNat then some (c.toNat - 'A'.toNat + 10)
  else decDigit c

/-- Digits of a base, most significant first, after the value `acc` of the digits before them. -/
def readDigits (digit : Char → Option Nat) (base : Nat) : Nat → List Char → Option Nat
  | acc, [] => some acc
  | acc, c :: cs =>
    match digit c with
    | none => none
    | some d => readDigits digit base (acc * base + d) cs

/-- A number: "operands are hexadecimal with `0x` or decimal" (R80). -/
def readNumber : List Char → Option Nat
  | [] => none
  | '0' :: 'x' :: [] => none
  | '0' :: 'x' :: cs => readDigits hexDigit 16 0 cs
  | cs => readDigits decDigit 10 0 cs

/-- Numbers, all of them or none. -/
def readNumbers : List (List Char) → Option (List Nat)
  | [] => some []
  | w :: ws =>
    match readNumber w, readNumbers ws with
    | some n, some ns => some (n :: ns)
    | _, _ => none

/-- The registers by the names of 10_state.md R20. Indices 14 and 15 have none. -/
def registerNames : List (List Char × HostReg) := [
  (['O', 'P', 'W', 'O', 'R', 'D'], .opword), (['A', 'R', 'G'], .arg), (['S', 'T', 'A', 'T', 'U', 'S'], .status),
  (['R', 'D', 'A', 'T', 'A'], .rdata), (['C', 'R', 'C'], .crc), (['T', 'X', 'C', 'O', 'U', 'N', 'T'], .txcount),
  (['C', 'O', '2'], .co2), (['T', 'E', 'M', 'P'], .temp), (['R', 'H'], .rh),
  (['P', 'A', 'Y', 'L', 'O', 'A', 'D', '0'], .payload0), (['P', 'A', 'Y', 'L', 'O', 'A', 'D', '1'], .payload1),
  (['P', 'A', 'Y', 'L', 'O', 'A', 'D', '2'], .payload2), (['P', 'A', 'Y', 'L', 'O', 'A', 'D', '3'], .payload3),
  (['P', 'A', 'Y', 'L', 'O', 'A', 'D', '4'], .payload4)]

/-- A register, "by name or index" (R80). -/
def readRegister (cs : List Char) : Option HostReg :=
  match registerNames.lookup cs with
  | some r => some r
  | none =>
    match readNumber cs with
    | none => none
    | some n => if h : n < 16 then some (HostReg.ofIndex ⟨n, h⟩) else none

/-! ### Lines -/

/-- One line of a host program: a line that makes host accesses, or `WAIT` (R81). -/
inductive ProgLine where
  | accesses (l : AsmLine)
  | wait
deriving DecidableEq, Repr

/-- The lines that have numbers for operands: `CRC_INIT`, `CRC_FEED b`, `OPEN`, `READ_REG w`, `SEND_CMD w`, `SEND_CMD_ARG w`,
`READ_MEAS`, `SEND_CMD_ARG w, a`, `CRC8 b0, b1, ..., bn`, `CLR_OVR` and `WAIT`. -/
def lineOfNumbers (mnemonic : List Char) (ops : List Nat) : Option ProgLine :=
  match mnemonic, ops with
  | ['C', 'R', 'C', '_', 'I', 'N', 'I', 'T'], [] => some (.accesses .crcInit)
  | ['C', 'R', 'C', '_', 'F', 'E', 'E', 'D'], [b] => some (.accesses (.crcFeed b))
  | ['O', 'P', 'E', 'N'], [] => some (.accesses .openSession)
  | ['R', 'E', 'A', 'D', '_', 'R', 'E', 'G'], [w] => some (.accesses (.readReg w))
  | ['S', 'E', 'N', 'D', '_', 'C', 'M', 'D'], [w] => some (.accesses (.sendCmd w))
  | ['S', 'E', 'N', 'D', '_', 'C', 'M', 'D', '_', 'A', 'R', 'G'], [w] => some (.accesses (.sendCmdArg w))
  | ['S', 'E', 'N', 'D', '_', 'C', 'M', 'D', '_', 'A', 'R', 'G'], [w, a] => some (.accesses (.sendCmdWithArg w a))
  | ['R', 'E', 'A', 'D', '_', 'M', 'E', 'A', 'S'], [] => some (.accesses .readMeas)
  | ['C', 'R', 'C', '8'], bytes => some (.accesses (.crc8 bytes))
  | ['C', 'L', 'R', '_', 'O', 'V', 'R'], [] => some (.accesses .clrOvr)
  | ['W', 'A', 'I', 'T'], [] => some .wait
  | _, _ => none

/-- A line of its mnemonic, in capitals, and the texts of its operands. -/
def lineOfTexts (mnemonic : List Char) (texts : List (List Char)) : Option ProgLine :=
  match mnemonic, texts with
  | ['W', 'R'], [r, v] =>
    match readRegister r, readNumber v with
    | some r, some v => some (.accesses (.wr r v))
    | _, _ => none
  | ['R', 'D'], [r] => (readRegister r).map fun r => .accesses (.rd r)
  | _, _ =>
    match readNumbers texts with
    | none => none
    | some ops => lineOfNumbers mnemonic ops

/-- Whether every value of a line is in its field's range (R80). -/
def ProgLine.wf : ProgLine → Bool
  | .accesses l => l.wf
  | .wait => true

/-- Reads one line: `none` is the assembly error of R80, which a value out of range is too. -/
def readLine (cs : List Char) : Option ProgLine :=
  let line := trimBlanks cs
  match lineOfTexts (capitals (line.takeWhile fun c => !isBlank c)) (operandTexts (line.dropWhile fun c => !isBlank c)) with
  | none => none
  | some l => if l.wf then some l else none

/-! ### Running a program -/

/-- One line on the machine: its host accesses as the next inputs, or the host's polling loop, followed for at most `fuel`
steps. A line with a value out of range assembles to no accesses and does not run: "the assembler never truncates it" (R80). -/
def ProgLine.run (fuel : Nat) (l : ProgLine) (s : State) : Option State :=
  match l with
  | .accesses l =>
    match l.assemble with
    | none => none
    | some xs => stepsOf xs.length (s.withHost xs)
  | .wait => waitIdle fuel s

/-- A program, line by line. -/
def runProgram (fuel : Nat) : List ProgLine → State → Option State
  | [], s => some s
  | l :: ls, s =>
    match l.run fuel s with
    | none => none
    | some t => runProgram fuel ls t

end Sys2Proof.Machine
end

