-- ==== Sys2Proof/Tests/Slice0.lean ====
section
/-! SUPPORT. Tests of the model, with expected values from spec/95_test_vectors.md and the encodings of 30_encoding.md, and a
witness for the hypotheses of every obligation that has some. -/

namespace Sys2Proof.Tests

open Sys2Proof Sys2Proof.Machine

/-! ### Helpers -/

/-- A field of the next state, if there is one. -/
def nextField {α : Type} (f : State → α) (r : Result) : Option α :=
  match r with
  | .next t => some (f t)
  | .fault _ => none
  | .refused _ => none

/-- An idle block with an open session (vector F1), and what the agents do next. -/
def opened (xs : List Input) : State := { State.reset with session := .opened, done := true, inputs := xs }

/-- The state right after reset, and what the agents do next. -/
def closed (xs : List Input) : State := { State.reset with inputs := xs }

/-- A session that failed to open (vector F2), and what the agents do next. -/
def failed (xs : List Input) : State :=
  { State.reset with session := .failed, done := true, err := .openError, inputs := xs }

/-- OPEN in flight. -/
def opening (xs : List Input) : State := { State.reset with phase := .opening, inputs := xs }

/-- READ_REG 0x0202 in flight in the phase `p`, with the timer at `timer`. -/
def reading (p : Phase) (timer : Option Nat) (xs : List Input) : State :=
  { State.reset with
    opword := 0x02020004#32, session := .opened, phase := p, curOp := .readReg, latW := 0x0202#16,
    txbuf := [0x02, 0x02], rxlen := 2, settleTimer := timer, inputs := xs }

/-- The same in RX, with its write phase in TXCOUNT and in the bus history. -/
def readingRx (xs : List Input) : State :=
  { reading .rx none xs with
    txLen := 2, txCount := 2, history := [⟨.busWrite [0x02, 0x02], .answered (.okCount 2)⟩] }

/-- SEND_CMD 0xD304 in TX (vector F10). -/
def sending (xs : List Input) : State :=
  { State.reset with
    opword := 0xD3040005#32, session := .opened, phase := .tx, curOp := .sendCmd, latW := 0xD304#16,
    txbuf := [0xD3, 0x04], rxlen := 0, inputs := xs }

/-- SEND_CMD_ARG 0x1234 with argument 0x5678 in TX (vector F15). -/
def sendingArg (xs : List Input) : State :=
  { State.reset with
    opword := 0x12340006#32, arg := 0x5678#16, session := .opened, phase := .tx, curOp := .sendCmdArg,
    latW := 0x1234#16, latA := 0x5678#16, txbuf := [0x12, 0x34, 0x56, 0x78, 0x7D], rxlen := 0, inputs := xs }

/-- READ_MEAS in RX. -/
def measuring (xs : List Input) : State :=
  { State.reset with
    opword := 0x00000007#32, session := .opened, phase := .rx, curOp := .readMeas, rxlen := 18,
    txLen := 2, txCount := 2, inputs := xs }

/-- Payload PA of spec/95 section 2.3. -/
def payloadA : List Byte :=
  [0x43, 0x96, 0xBA, 0x40, 0x00, 0x08, 0x41, 0xC8, 0x02, 0x00, 0x00, 0x81, 0x42, 0x48, 0x55, 0x00, 0x00, 0x81]

/-- The payload of vector M12. -/
def payloadM12 : List Byte :=
  [0x43, 0x96, 0xBA, 0x40, 0x00, 0xF7, 0x41, 0xC8, 0x02, 0x00, 0x00, 0x81, 0x42, 0x48, 0xD5, 0x00, 0x00, 0x81]

/-! ### WellFormed: each check of R80 refuses an ill-formed line and takes the greatest value in range -/

theorem test_wf_crc_feed : (AsmLine.crcFeed 256).assemble = none ∧ (AsmLine.crcFeed 255).wf = true := by decide
theorem test_wf_read_reg : (AsmLine.readReg 65536).assemble = none ∧ (AsmLine.readReg 65535).wf = true := by decide
theorem test_wf_send_cmd : (AsmLine.sendCmd 65536).assemble = none ∧ (AsmLine.sendCmd 65535).wf = true := by decide
theorem test_wf_send_cmd_arg : (AsmLine.sendCmdArg 65536).assemble = none ∧ (AsmLine.sendCmdArg 65535).wf = true := by decide
theorem test_wf_wr : (AsmLine.wr .arg 4294967296).assemble = none ∧ (AsmLine.wr .arg 4294967295).wf = true := by decide
theorem test_wf_pseudo_arg : (AsmLine.sendCmdWithArg 65536 0).assemble = none ∧ (AsmLine.sendCmdWithArg 0 4294967296).assemble = none ∧
    (AsmLine.sendCmdWithArg 65535 4294967295).wf = true := by decide
theorem test_wf_crc8 : (AsmLine.crc8 []).assemble = none ∧ (AsmLine.crc8 [0, 256]).assemble = none ∧
    (AsmLine.crc8 [0, 255]).wf = true := by decide

/-! ### Decode: words written out field by field, W B Z OP, from the table of R71 -/

theorem test_decode_crc_init : decodeWord (0x0000#16 ++ 0x00#8 ++ 0x0#4 ++ 0b0001#4) = some .crcInit := by decide
theorem test_decode_crc_feed : decodeWord (0x0000#16 ++ 0xE8#8 ++ 0x0#4 ++ 0b0010#4) = some (.crcFeed 0xE8) := by decide
theorem test_decode_open : decodeWord (0x0000#16 ++ 0x00#8 ++ 0x0#4 ++ 0b0011#4) = some .openSession := by decide
theorem test_decode_read_reg : decodeWord (0x0202#16 ++ 0x00#8 ++ 0x0#4 ++ 0b0100#4) = some (.readReg 0x0202) := by decide
theorem test_decode_send_cmd : decodeWord (0xD304#16 ++ 0x00#8 ++ 0x0#4 ++ 0b0101#4) = some (.sendCmd 0xD304) := by decide
theorem test_decode_send_cmd_arg : decodeWord (0x5204#16 ++ 0x00#8 ++ 0x0#4 ++ 0b0110#4) = some (.sendCmdArg 0x5204) := by decide
theorem test_decode_read_meas : decodeWord (0x0000#16 ++ 0x00#8 ++ 0x0#4 ++ 0b0111#4) = some .readMeas := by decide

/-- Each constructor's word as spec/95 writes it. -/
theorem test_encode_words :
    [Instr.crcInit, .crcFeed 0x03, .openSession, .readReg 0x0202, .sendCmd 0xD304, .sendCmdArg 0x5204, .readMeas].map encode =
      [0x00000001, 0x00000302, 0x00000003, 0x02020004, 0xD3040005, 0x52040006, 0x00000007] := by decide

/-- The illegal words of spec/95 section 2.6, with the reason of R74 by which each is rejected. -/
theorem test_decode_illegal :
    ([0x00000000, 0x00000008, 0x0000000F, 0x00000011, 0x000000F0, 0x00010001, 0x00010003, 0x00000107, 0x00000104] : List Word).map
        (fun v => (decodeWord v, illegalReason v)) =
      [(none, some .unassignedOp), (none, some .unassignedOp), (none, some .unassignedOp), (none, some .nonzeroZ),
        (none, some .unassignedOp), (none, some .nonzeroW), (none, some .nonzeroW), (none, some .nonzeroB),
        (none, some .nonzeroB)] := by decide

/-- R20: the index of a register names it again. -/
theorem test_host_reg_index : ∀ i : Fin 16, (HostReg.ofIndex i).index = i := by decide

/-- R81: `SEND_CMD_ARG 0x5204, 0x03E8` is the write of ARG and then the launch (program P3). -/
theorem test_expand_send_cmd_arg :
    (AsmLine.sendCmdWithArg 0x5204 0x03E8).assemble = some [.write .arg 0x000003E8, .write .opword 0x52040006] := by decide

/-- R80: a line as text, its mnemonic in any case, hexadecimal and decimal, a register by name and by index. -/
theorem test_read_line :
    readLine ['r', 'e', 'a', 'd', '_', 'R', 'E', 'G', ' ', '0', 'x', '0', '2', '0', '2'] = some (.accesses (.readReg 0x0202)) ∧
      readLine ['W', 'R', ' ', 'A', 'R', 'G', ',', ' ', '1', '0', '0', '0'] = some (.accesses (.wr .arg 0x03E8)) ∧
      readLine ['R', 'D', ' ', '1', '5'] = some (.accesses (.rd .reserved15)) ∧ readLine ['W', 'a', 'i', 't'] = some .wait ∧
      readLine ['C', 'R', 'C', '8', ' ', '0', 'x', 'B', 'e', ',', '0', 'x', 'E', 'F'] = some (.accesses (.crc8 [0xBE, 0xEF])) := by
  decide +kernel

/-- R80: a value out of range, a register that does not exist, an operand that is missing and an unknown mnemonic are errors. -/
theorem test_read_line_error :
    readLine ['C', 'R', 'C', '_', 'F', 'E', 'E', 'D', ' ', '2', '5', '6'] = none ∧ readLine ['R', 'D', ' ', '1', '6'] = none ∧
      readLine ['R', 'E', 'A', 'D', '_', 'R', 'E', 'G'] = none ∧ readLine ['N', 'O', 'P'] = none ∧ readLine ['C', 'R', 'C', '8'] = none := by
  decide +kernel

/-- Program P1: `CRC8 0x03, 0xE8`, then `RD CRC`. -/
theorem test_program_p1 :
    (runProgram 0 [.accesses (.crc8 [0x03, 0xE8]), .accesses (.rd .crc)] (closed [])).map (fun t => (t.reads, t.hostValue .status)) =
      some ([(.crc, 0x000000D4)], 0x00000002) := by decide +kernel

/-- R80: a line with a value out of range does not run, and is not truncated to one that does. -/
theorem test_out_of_range_does_not_run :
    runProgram 0 [.accesses (.crcFeed 256)] (closed []) = none ∧
      (runProgram 0 [.accesses (.crcFeed 255)] (closed [])).map (fun t => t.crc) = some 0x00 := by decide +kernel

/-! ### One step: at most two per operation, values from spec/95 -/

/-- K1: CRC = 0x5A, then CRC_INIT. -/
theorem test_crc_init : nextField (fun t => (t.crc, t.hostValue .status)) (exec .crcInit { closed [] with crc := 0x5A }) =
    some (0xFF, 0x00000002) := by decide

/-- Section 2.6: in session FAILED a legal pure operation still completes (K10's STATUS). -/
theorem test_crc_init_failed : nextField (fun t => t.hostValue .status) (exec .crcInit (failed [])) = some 0x00000082 := by decide

/-- K5: the second byte of the argument 0x03E8. -/
theorem test_crc_feed : nextField (fun t => (t.crc, t.opword)) (exec (.crcFeed 0xE8) (closed [])) =
    some (0xD4, 0x0000E802) := by decide

/-- K11 and P6: a launch while READ_MEAS is in flight is dropped. -/
theorem test_launch_while_busy :
    nextField (fun t => (t.hostValue .status, t.opword)) (exec (.crcFeed 0) (measuring [])) = some (0x00000045, 0x00000007) := by
  decide

/-- F1: while OPENING, STATUS is 1. -/
theorem test_open_launch : nextField (fun t => (t.hostValue .status, t.phase)) (exec .openSession (closed [])) =
    some (0x00000001, .opening) := by decide

/-- F2: the open request fails. -/
theorem test_open_failed : nextField (fun t => (t.hostValue .status, t.history)) (step (opening [.transport .err])) =
    some (0x00000382, [⟨.busOpen, .answered .err⟩]) := by decide

/-- F6: the launch of READ_REG 0x0202. -/
theorem test_read_reg_launch :
    nextField (fun t => (t.hostValue .status, t.request)) (exec (.readReg 0x0202) (opened [])) =
      some (0x00000041, some (.busWrite [0x02, 0x02])) := by decide

/-- F7's response bytes, big-endian. -/
theorem test_read_reg_result :
    nextField (fun t => (t.hostValue .rdata, t.hostValue .status)) (step (readingRx [.transport (.okBytes [0x01, 0x90])])) =
      some (0x00000190, 0x0000004A) := by decide

/-- F10: the frame of a command. -/
theorem test_send_cmd_launch : nextField (fun t => t.request) (exec (.sendCmd 0xD304) (opened [])) =
    some (some (.busWrite [0xD3, 0x04])) := by decide

/-- F11: its write fails. -/
theorem test_send_cmd_error :
    nextField (fun t => (t.hostValue .status, t.hostValue .txcount)) (step (sending [.transport .err])) =
      some (0x00000142, 0x00000200) := by decide

/-- F12: the frame of a command with the argument 0x03E8. -/
theorem test_send_cmd_arg_launch :
    nextField (fun t => t.request) (exec (.sendCmdArg 0x5204) { opened [] with arg := 0x03E8 }) =
      some (some (.busWrite [0x52, 0x04, 0x03, 0xE8, 0xD4])) := by decide +kernel

/-- F15: a short count is a success. -/
theorem test_send_cmd_arg_short :
    nextField (fun t => (t.hostValue .status, t.hostValue .txcount)) (step (sendingArg [.transport (.okCount 3)])) =
      some (0x00000042, 0x00000503) := by decide

/-- M1: payload PA is accepted. -/
theorem test_read_meas_accepted :
    nextField (fun t => (t.hostValue .status, [t.co2, t.temp, t.rh], t.hostValue .payload4))
        (step (measuring [.transport (.okBytes payloadA)])) =
      some (0x00000052, [0x43964000, 0x41C80000, 0x42480000], 0x00810000) := by decide +kernel

/-- M12: two triplets fail. -/
theorem test_read_meas_rejected :
    nextField (fun t => (t.hostValue .status, t.co2)) (step (measuring [.transport (.okBytes payloadM12)])) =
      some (0x00120242, 0x00000000) := by decide +kernel

/-- H10's frame through the host sequence, and that nothing is waited for. -/
theorem test_set_interval :
    ((setMeasurementInterval 1800).run 1 0 (opened [.transport (.okCount 5)])).map
        (fun e => (e.result, e.state.history, e.waitedMs)) =
      some (⟨true, none⟩, [⟨.busWrite [0x46, 0x00, 0x07, 0x08, 0x96], .answered (.okCount 5)⟩], 0) := by decide +kernel

/-- H17: softReset waits 30 ms after a failed write too. -/
theorem test_soft_reset :
    (softReset.run 1 0 (opened [.transport .err])).map (fun e => (e.result, e.waitedMs)) = some (false, 30) := by decide

/-! ### Witnesses: states and operands that meet the hypotheses of each obligation together -/

theorem witness_DecodeOfEncodeIsTheOperation : (Instr.crcFeed 0xFF).wf = true ∧ (Instr.sendCmdArg 0xFFFF).wf = true := by decide

theorem witness_EncodeOfDecodeIsTheWord :
    decodeWord 0xFFFF0006 = some (.sendCmdArg 0xFFFF) ∧ decodeWord 0x0000FF02 = some (.crcFeed 0xFF) := by decide

theorem witness_StepRunsTheDecodedOperation :
    (closed [.host (.write .opword 0x02020004)]).inputs = .host (.write .opword 0x02020004) :: [] ∧
      decodeWord 0x02020004 = some (.readReg 0x0202) ∧ decodeTableWord 32 0xD3040005 = some (.sendCmd 0xD304) := by decide

theorem witness_BusyLaunchIsDropped :
    (sending [.host (.write .opword 0x00000008)]).inputs = .host (.write .opword 0x00000008) :: [] ∧
      (sending [.host (.write .opword 0x00000008)]).phase ≠ .idle := by decide

theorem witness_AcceptedLaunchStoresTheWord : State.reset.phase = .idle ∧ (opened []).phase = .idle := by decide

theorem witness_IllegalWordCompletesWithIllegalOp :
    (failed [.host (.write .opword 0x00000008)]).inputs = .host (.write .opword 0x00000008) :: [] ∧
      (failed [.host (.write .opword 0x00000008)]).phase = .idle ∧ decodeWord 0x00000008 = none ∧
      decodeWord 0x00000000 = none ∧ decodeWord 0xFFFFFFFF = none := by decide

theorem witness_LaunchFrame :
    (∃ t, exec (.crcFeed 0xE8) (closed []) = .next t ∧ t.crc ≠ (closed []).crc) ∧
      (∃ t, exec .readMeas (sending []) = .next t) ∧ (∃ t, exec (.readReg 0) (opened []) = .next t) :=
  ⟨⟨_, rfl, by decide⟩, ⟨_, rfl⟩, ⟨_, rfl⟩⟩

theorem witness_OneByteChangeIsSeenTwoCanHide : (0x43 : Byte) ≠ 0x00 ∧ crc8 [0x43, 0x96] = crc8 [0x00, 0xF8] := by decide +kernel

theorem witness_CrcInitSetsTheAccumulator :
    (closed []).phase = .idle ∧ (sending []).phase ≠ .idle ∧
      ((0x00000101 : Word) &&& 0x0000000F = 0x00000001 ∧ (0x00000101 : Word) ≠ 0x00000001) := by decide

theorem witness_CrcFeedFoldsOneByte :
    (closed []).phase = .idle ∧ (sending []).phase ≠ .idle ∧
      ((0x00010002 : Word) &&& 0x0000000F = 0x00000002 ∧ (0x00010002 : Word) &&& 0xFFFF00F0 ≠ 0) ∧
      ((0x00000012 : Word) &&& 0x0000000F = 0x00000002 ∧ (0x00000012 : Word) &&& 0xFFFF00F0 ≠ 0) := by decide

theorem witness_FeedingBytesComputesTheChecksum :
    (closed (.host (launchAccess .crcInit) :: ([0x03, 0xE8].map fun b => Input.host (launchAccess (.crcFeed b))) ++ [.tick])).phase =
      .idle ∧
    (closed (.host (launchAccess .crcInit) :: ([0x03, 0xE8].map fun b => Input.host (launchAccess (.crcFeed b))) ++ [.tick])).inputs =
      .host (launchAccess .crcInit) :: ([0x03, 0xE8].map fun b => Input.host (launchAccess (.crcFeed b))) ++ [.tick] := by decide

theorem witness_PatternIsFourDataBytes : 5 < 6 ∧ 2 < 3 ∧ dataWord payloadA 4 = 0x4248 ∧ pattern payloadA 1 = 0x41C80000 := by decide

theorem witness_PayloadRegistersHoldTheBytes : payloadA.length = 18 := by decide

theorem witness_OpenOperation :
    ((failed []).phase = .idle ∧ (failed []).session = .failed) ∧ ((opened []).phase = .idle ∧ (opened []).session = .opened) ∧
      ((closed []).phase = .idle ∧ (closed []).session = .closed) ∧
      ((opening [.transport .ok]).phase = .opening ∧ (opening [.transport .ok]).inputs = .transport .ok :: []) ∧
      ((opening [.transport .err]).phase = .opening ∧ (opening [.transport .err]).inputs = .transport .err :: []) := by decide

theorem witness_BusOperationNeedsAnOpenSession :
    ((failed []).phase = .idle ∧ (failed []).session = .failed) ∧ ((closed []).phase = .idle ∧ (closed []).session = .closed) ∧
      (Instr.sendCmd 0 = .readMeas ∨ ∃ w, Instr.sendCmd 0 = .readReg w ∨ Instr.sendCmd 0 = .sendCmd w ∨
        Instr.sendCmd 0 = .sendCmdArg w) :=
  ⟨by decide, by decide, .inr ⟨0, .inr (.inl rfl)⟩⟩

theorem witness_SessionChangesOnlyByOpenAndReset :
    (∃ t, step (opening [.transport .ok]) = .next t ∧ t.session ≠ (opening [.transport .ok]).session) ∧
      (∃ t, step (opening [.transport .err]) = .next t ∧ t.session ≠ (opening [.transport .err]).session) ∧
      (∃ t, step (failed [.reset 0]) = .next t ∧ t.session ≠ (failed [.reset 0]).session) ∧
      ((failed [.host (.write .opword 3)]).ControlInv ∧ (failed [.host (.write .opword 3)]).session = .failed ∧
        ∃ t, step (failed [.host (.write .opword 3)]) = .next t) ∧
      ((readingRx [.transport .err]).ControlInv ∧ (readingRx [.transport .err]).session = .opened ∧
        ∃ t, step (readingRx [.transport .err]) = .next t) ∧
      (Input.host (.write .opword 3)).isReset = false ∧ Input.isReset (.transport .err) = false :=
  ⟨⟨_, rfl, by decide⟩, ⟨_, rfl, by decide⟩, ⟨_, rfl, by decide⟩, ⟨by decide, by decide, ⟨_, rfl⟩⟩,
    ⟨by decide, by decide, ⟨_, rfl⟩⟩, by decide, by decide⟩

theorem witness_WritePhaseAnswered :
    ((reading .tx none [.transport .err]).phase = .tx ∧
      (reading .tx none [.transport .err]).inputs = .transport .err :: []) ∧
    ((reading .tx none [.transport (.okCount 2)]).phase = .tx ∧
      (reading .tx none [.transport (.okCount 2)]).inputs = .transport (.okCount 2) :: [] ∧
      2 ≤ (reading .tx none [.transport (.okCount 2)]).txbuf.length ∧ 0 < (reading .tx none [.transport (.okCount 2)]).rxlen) ∧
    ((sendingArg [.transport (.okCount 5)]).phase = .tx ∧
      (sendingArg [.transport (.okCount 5)]).inputs = .transport (.okCount 5) :: [] ∧
      5 ≤ (sendingArg [.transport (.okCount 5)]).txbuf.length ∧ (sendingArg [.transport (.okCount 5)]).rxlen = 0) := by decide

theorem witness_SettleTimerCountsTicks :
    ((reading .settle (some 1) [.tick]).phase = .settle ∧ (reading .settle (some 1) [.tick]).settleTimer = some 1 ∧
      (reading .settle (some 1) [.tick]).inputs = List.replicate 1 .tick ++ [] ∧ 0 < 1) ∧
    ((reading .settle (some 3) [.tick, .tick, .tick]).settleTimer = some 3 ∧
      (reading .settle (some 3) [.tick, .tick, .tick]).inputs = List.replicate 3 .tick ++ [] ∧ 2 < 3) := by decide

theorem witness_SettleCannotBeCutShort :
    (reading .settle (some 3) [.host (.write .opword 1)]).phase = .settle ∧
      (Input.host (.write .opword 1)).isTimebase = false ∧ (Input.host (.write .opword 1)).isReset = false ∧
      ∃ t, step (reading .settle (some 3) [.host (.write .opword 1)]) = .next t :=
  ⟨by decide, by decide, by decide, ⟨_, rfl⟩⟩

theorem witness_WaitsForTheTransportWithoutTimeout :
    State.reset.inputs = [] ∧
      ((opening [.tick]).phase = .opening ∧ (sending [.host (.write .arg 7)]).phase = .tx ∧ (readingRx [.host (.read .status)]).phase = .rx) ∧
      (Input.tick.isTransport = false ∧ Input.tick.isReset = false) ∧ (∃ t, step (opening [.tick]) = .next t) ∧
      (∃ t, step (sending [.host (.write .arg 7)]) = .next t) ∧ (∃ t, step (readingRx [.host (.read .status)]) = .next t) :=
  ⟨by decide, by decide, by decide, ⟨_, rfl⟩, ⟨_, rfl⟩, ⟨_, rfl⟩⟩

theorem witness_PhaseOrder :
    (∃ t, step (closed [.host (.write .opword 3)]) = .next t ∧ t.phase = .opening) ∧
      (∃ t, step (opened [.host (.write .opword 4)]) = .next t ∧ t.phase = .tx) ∧
      (∃ t, step (opening [.transport .ok]) = .next t ∧ t.phase = .idle) ∧
      (∃ t, step (sending [.transport (.okCount 0)]) = .next t ∧ t.phase = .idle) ∧
      (∃ t, step (reading .tx none [.transport (.okCount 2)]) = .next t ∧ t.phase = .settle) ∧
      (∃ t, step (reading .settle (some 1) [.tick]) = .next t ∧ t.phase = .rx) ∧
      (∃ t, step (readingRx [.transport .err]) = .next t ∧ t.phase = .idle) :=
  ⟨⟨_, rfl, rfl⟩, ⟨_, rfl, rfl⟩, ⟨_, rfl, rfl⟩, ⟨_, rfl, rfl⟩, ⟨_, rfl, rfl⟩, ⟨_, rfl, rfl⟩, ⟨_, rfl, rfl⟩⟩

theorem witness_ReadRegOperation :
    (opened []).phase = .idle ∧ (opened []).session = .opened ∧ 2 ≤ 2 ∧
      (opened [.host (launchAccess (.readReg 0x0202)), .transport (.okCount 2), .settleElapsed, .transport (.okBytes [0x00, 0x01])]).inputs =
        .host (launchAccess (.readReg 0x0202)) :: .transport (.okCount 2) :: .settleElapsed :: .transport (.okBytes [0x00, 0x01]) :: [] ∧
      (opened [.host (launchAccess (.readReg 0x0202)), .transport .err]).inputs =
        .host (launchAccess (.readReg 0x0202)) :: .transport .err :: [] ∧
      (opened [.host (launchAccess (.readReg 0x0202)), .transport (.okCount 0), .settleElapsed, .transport .err]).inputs =
        .host (launchAccess (.readReg 0x0202)) :: .transport (.okCount 0) :: .settleElapsed :: .transport .err :: [] := by decide

theorem witness_SendCmdOperation :
    (opened []).phase = .idle ∧ (opened []).session = .opened ∧
      (opened [.host (launchAccess (.sendCmd 0xD304)), .transport (.okCount 2)]).inputs =
        .host (launchAccess (.sendCmd 0xD304)) :: .transport (.okCount 2) :: [] ∧
      (opened [.host (launchAccess (.sendCmd 0xD304)), .transport .err]).inputs =
        .host (launchAccess (.sendCmd 0xD304)) :: .transport .err :: [] := by decide

theorem witness_SendCmdArgOperation :
    (opened []).phase = .idle ∧ (opened []).session = .opened ∧
      [0x52, 0x04, 0x00, 0x00, 0x81] = [(0x5204 : Half).extractLsb' 8 8, (0x5204 : Half).extractLsb' 0 8,
        (opened []).arg.extractLsb' 8 8, (opened []).arg.extractLsb' 0 8,
        crc8 [(opened []).arg.extractLsb' 8 8, (opened []).arg.extractLsb' 0 8]] ∧
      (opened [.host (launchAccess (.sendCmdArg 0x5204)), .host (.write .arg 0xFFFFFFFF), .transport (.okCount 5)]).inputs =
        .host (launchAccess (.sendCmdArg 0x5204)) :: .host (.write .arg 0xFFFFFFFF) :: .transport (.okCount 5) :: [] ∧
      (opened [.host (launchAccess (.sendCmdArg 0x5204)), .transport .err]).inputs =
        .host (launchAccess (.sendCmdArg 0x5204)) :: .transport .err :: [] := by decide +kernel

theorem witness_ReadMeasOperation :
    (opened []).phase = .idle ∧ (opened []).session = .opened ∧
      (∃ f : List Byte, f = [Config.measReadAddr.extractLsb' 8 8, Config.measReadAddr.extractLsb' 0 8]) ∧
      (payloadA.length = 18 ∧ failMask payloadA = 0) ∧ (payloadM12.length = 18 ∧ failMask payloadM12 ≠ 0) ∧
      (opened [.host (launchAccess .readMeas), .transport (.okCount 2), .settleElapsed, .transport (.okBytes payloadA)]).inputs =
        .host (launchAccess .readMeas) :: .transport (.okCount 2) :: .settleElapsed :: .transport (.okBytes payloadA) :: [] ∧
      (opened [.host (launchAccess .readMeas), .transport (.okCount 0), .settleElapsed, .transport (.okBytes payloadM12)]).inputs =
        .host (launchAccess .readMeas) :: .transport (.okCount 0) :: .settleElapsed :: .transport (.okBytes payloadM12) :: [] ∧
      (opened [.host (launchAccess .readMeas), .transport .err]).inputs =
        .host (launchAccess .readMeas) :: .transport .err :: [] ∧
      (opened [.host (launchAccess .readMeas), .transport (.okCount 2), .settleElapsed, .transport .err]).inputs =
        .host (launchAccess .readMeas) :: .transport (.okCount 2) :: .settleElapsed :: .transport .err :: [] :=
  ⟨by decide, by decide, ⟨_, rfl⟩, by decide +kernel, by decide +kernel, by decide, by decide, by decide, by decide⟩

theorem witness_SingleByteCorruptionIsRejected :
    (measuring [.transport (.okBytes (payloadA.set 17 0x80))]).phase = .rx ∧
      (measuring [.transport (.okBytes (payloadA.set 17 0x80))]).curOp = .readMeas ∧
      (measuring [.transport (.okBytes (payloadA.set 17 0x80))]).rxlen = 18 ∧ payloadA.length = 18 ∧ failMask payloadA = 0 ∧
      17 < 18 ∧ (0x80 : Byte) ≠ payloadA.getD 17 0 ∧
      (measuring [.transport (.okBytes (payloadA.set 17 0x80))]).inputs = .transport (.okBytes (payloadA.set 17 0x80)) :: [] ∧
      (0x42 : Byte) ≠ payloadA.getD 0 0 := by decide +kernel

theorem witness_FrameRoundTrip : (opened []).phase = .idle ∧ (opened []).session = .opened := by decide

theorem witness_StepKeepsControl :
    ((readingRx [.transport .err]).ControlInv ∧ ∃ t, step (readingRx [.transport .err]) = .next t) ∧
      ((sendingArg [.transport (.okCount 5)]).ControlInv ∧ ∃ t, step (sendingArg [.transport (.okCount 5)]) = .next t) ∧
      ((failed [.reset 0]).ControlInv ∧ ∃ t, step (failed [.reset 0]) = .next t) :=
  ⟨⟨by decide, ⟨_, rfl⟩⟩, ⟨by decide +kernel, ⟨_, rfl⟩⟩, ⟨by decide, ⟨_, rfl⟩⟩⟩

theorem witness_StoredMeasurementIsValidated :
    ((measuring [.transport (.okBytes payloadA)]).MeasInv ∧ ∃ t, step (measuring [.transport (.okBytes payloadA)]) = .next t) ∧
      ((loadMeasurement payloadA (measuring [.transport .err])).MeasInv ∧
        ∃ t, step (loadMeasurement payloadA (measuring [.transport .err])) = .next t) :=
  ⟨⟨by decide, ⟨_, rfl⟩⟩, ⟨by decide +kernel, ⟨_, rfl⟩⟩⟩

theorem witness_HistoryKeepsReadsAfterWrites :
    (readingRx [.transport .err]).ControlInv ∧ (readingRx [.transport .err]).HistoryInv ∧
      ∃ t, step (readingRx [.transport .err]) = .next t :=
  ⟨by decide, by decide, ⟨_, rfl⟩⟩

theorem witness_CrcChangesOnlyByChecksumOperations :
    (∃ t, step (closed [.host (.write .opword 0x00000002)]) = .next t ∧
        t.crc ≠ (closed [.host (.write .opword 0x00000002)]).crc) ∧
      (∃ t, step { closed [.host (.write .opword 0x00000001)] with crc := 0x5A } = .next t ∧ t.crc ≠ 0x5A) ∧
      (Input.host (.write .opword 0x00000002)).isReset = false :=
  ⟨⟨_, rfl, by decide⟩, ⟨_, rfl, by decide⟩, by decide⟩

theorem witness_BusOperationsIgnoreTheAccumulator :
    (Input.isReset (.transport .ok) = false ∧ Input.isHost (.transport .ok) = false ∧ ∃ t, step (opening [.transport .ok]) = .next t) ∧
      (Instr.readMeas ≠ .crcInit ∧ (∀ b, Instr.readMeas ≠ .crcFeed b) ∧ ∃ t, exec .readMeas (opened []) = .next t) :=
  ⟨⟨by decide, by decide, ⟨_, rfl⟩⟩, ⟨by decide, nofun, ⟨_, rfl⟩⟩⟩

theorem witness_BlockStepsIgnoreLiveRegisters :
    (sendingArg [.transport (.okCount 5)]).inputs = .transport (.okCount 5) :: [] ∧ Input.isHost (.transport (.okCount 5)) = false ∧
      Input.isReset (.transport (.okCount 5)) = false ∧ ∃ t, step (sendingArg [.transport (.okCount 5)]) = .next t :=
  ⟨by decide, by decide, by decide, ⟨_, rfl⟩⟩

theorem witness_ResultsChangeOnlyAtSuccess :
    (∃ t, step (measuring [.transport (.okBytes payloadA)]) = .next t ∧ ¬ (measuring [.transport (.okBytes payloadA)]).SameResults t) ∧
      (∃ t, step (readingRx [.transport (.okBytes [0x00, 0x01])]) = .next t ∧
        ¬ (readingRx [.transport (.okBytes [0x00, 0x01])]).SameResults t) ∧
      Input.isReset (.transport (.okBytes payloadA)) = false :=
  ⟨⟨_, rfl, by decide +kernel⟩, ⟨_, rfl, by decide⟩, by decide⟩

theorem witness_TxcountChangesOnlyInWritePhases :
    (∃ t, step (sendingArg [.transport (.okCount 5)]) = .next t ∧ t.txCount ≠ (sendingArg [.transport (.okCount 5)]).txCount) ∧
      (∃ t, step (sending [.transport .err]) = .next t ∧ t.txLen ≠ (sending [.transport .err]).txLen) ∧
      Input.isReset (.transport .err) = false :=
  ⟨⟨_, rfl, by decide⟩, ⟨_, rfl, by decide⟩, by decide⟩

theorem witness_StepStopsOnlyOnDisallowedInputs :
    ((readingRx [.transport (.okBytes [0, 1])]).ControlInv ∧
      inputBreaksShape (readingRx [.transport (.okBytes [0, 1])]) (.transport (.okBytes [0, 1])) = false) ∧
    ((readingRx [.transport (.okBytes [0])]).ControlInv ∧
      inputBreaksShape (readingRx [.transport (.okBytes [0])]) (.transport (.okBytes [0])) = true) ∧
    ((sendingArg [.transport (.okCount 6)]).ControlInv ∧
      inputBreaksShape (sendingArg [.transport (.okCount 6)]) (.transport (.okCount 6)) = true) :=
  ⟨⟨by decide, by decide⟩, ⟨by decide, by decide⟩, by decide +kernel, by decide⟩

theorem witness_EventsNotWaitedForChangeNothing :
    ((sending [.transport .ok]).inputs = .transport .ok :: [] ∧
      (sending [.transport .ok]).request = some (.busWrite [0xD3, 0x04]) ∧ Answer.answers (.busWrite [0xD3, 0x04]) .ok = false) ∧
    ((closed [.transport .err]).inputs = .transport .err :: [] ∧ (closed [.transport .err]).phase = .idle) ∧
    ((reading .settle (some 1) [.transport (.okBytes [0, 1])]).inputs = .transport (.okBytes [0, 1]) :: [] ∧
      (reading .settle (some 1) [.transport (.okBytes [0, 1])]).phase = .settle) ∧
    ((closed [.settleElapsed]).phase ≠ .settle ∧ (closed [.settleElapsed]).inputs = .settleElapsed :: []) ∧
    ((readingRx [.tick]).phase ≠ .settle ∧ (readingRx [.tick]).inputs = .tick :: []) := by decide +kernel

theorem witness_HostReadHasNoSideEffect :
    (sending [.host (.read .status)]).inputs = .host (.read .status) :: [] ∧
      (closed [.host (.read .reserved15)]).inputs = .host (.read .reserved15) :: [] := by decide

theorem witness_HostWrites :
    (sending [.host (.write .arg 0x12345678)]).inputs = .host (.write .arg 0x12345678) :: [] ∧
      (sending [.host (.write .status 4)]).inputs = .host (.write .status 4) :: [] ∧
      ((closed [.host (.write .rdata 1)]).inputs = .host (.write .rdata 1) :: [] ∧ 3 ≤ HostReg.rdata.index.val) ∧
      ((closed [.host (.write .reserved15 1)]).inputs = .host (.write .reserved15 1) :: [] ∧ 3 ≤ HostReg.reserved15.index.val) := by
  decide

theorem witness_ResetValues :
    (measuring [.reset 18]).inputs = .reset 18 :: [] ∧ ∃ t, step (measuring [.reset 18]) = .next t := ⟨by decide, ⟨_, rfl⟩⟩

theorem witness_ResetAbandonsTheTransaction :
    ((sending [.reset 2]).inputs = .reset 2 :: [] ∧ (sending [.reset 2]).phase = .tx ∧ 2 ≤ (sending [.reset 2]).txbuf.length) ∧
      ((measuring [.reset 18]).inputs = .reset 18 :: [] ∧ (measuring [.reset 18]).phase = .rx ∧ 18 ≤ (measuring [.reset 18]).rxlen) ∧
      ((opening [.reset 0]).inputs = .reset 0 :: [] ∧ (opening [.reset 0]).phase = .opening) ∧
      ((reading .settle (some 1) [.reset 0]).inputs = .reset 0 :: [] ∧ (reading .settle (some 1) [.reset 0]).phase = .settle) ∧
      (failed [.reset 0]).phase = .idle := by decide

theorem witness_RefusedSettersSendNothing :
    (false = false ∨ (1000 : Int) < 400 ∨ 2000 < (1000 : Int)) ∧ (true = false ∨ (399 : Int) < 400 ∨ 2000 < (399 : Int)) ∧
      (true = false ∨ (2001 : Int) < 400 ∨ 2000 < (2001 : Int)) ∧ ((1 : Int) < 2 ∨ 1800 < (1 : Int)) ∧
      ((1801 : Int) < 2 ∨ 1800 < (1801 : Int)) := by decide

theorem witness_AcceptedSettersSendTheFrame :
    (opened [.transport (.okCount 5)]).phase = .idle ∧ (opened [.transport (.okCount 5)]).session = .opened ∧ 0 < 1 ∧ 5 ≤ 5 ∧
      (opened [.transport (.okCount 5)]).inputs = .transport (.okCount 5) :: [] ∧ (400 ≤ 400 ∧ 400 ≤ 2000) ∧
      (400 ≤ 2000 ∧ 2000 ≤ 2000) ∧ (2 ≤ 2 ∧ 2 ≤ 1800) ∧ (2 ≤ 1800 ∧ 1800 ≤ 1800) := by decide

theorem witness_DataReadyOnlyForExactlyOne :
    (opened []).phase = .idle ∧ 3 ≤ 3 ∧ (opened []).session = .opened ∧
      (opened [.transport (.okCount 2), .settleElapsed, .transport (.okBytes [0x01, 0x01])]).inputs =
        .transport (.okCount 2) :: .settleElapsed :: .transport (.okBytes [0x01, 0x01]) :: [] ∧
      (opened [.transport (.okCount 0), .settleElapsed, .transport .err]).inputs =
        .transport (.okCount 0) :: .settleElapsed :: .transport .err :: [] ∧
      (opened [.transport .err]).inputs = .transport .err :: [] ∧ (closed []).session ≠ .opened ∧ (closed []).phase = .idle := by
  decide

end Sys2Proof.Tests
end

section
/-! Proofs about when a step gives a next state: launches and host accesses always do, and an answer of the transport does unless
R55 and R56 rule its count or its number of bytes out (00_scope.md R5, 10_state.md R41). -/

namespace Sys2Proof.Machine

/-! ### Launches and host accesses -/

theorem launch_answers {body : State → Result} (hb : ∀ u, ∃ t, body u = .next t) (v : Word) (s : State) :
    ∃ t, launch v body s = .next t := by
  by_cases hp : s.phase = .idle
  · rw [launch_of_idle hp]
    exact hb _
  · exact ⟨_, launch_of_busy hp v body⟩

theorem busGate_answers (start : State → State) (s : State) : ∃ t, busGate start s = .next t := by
  unfold busGate
  split <;> exact ⟨_, rfl⟩

theorem openDispatch_answers (s : State) : ∃ t, openDispatch s = .next t := by
  unfold openDispatch
  split <;> exact ⟨_, rfl⟩

/-- The launch of any operation gives a next state, from every state. -/
theorem exec_answers (i : Instr) (s : State) : ∃ t, exec i s = .next t := by
  cases i with
  | crcInit => exact launch_answers (fun _ => ⟨_, rfl⟩) _ s
  | crcFeed b => exact launch_answers (fun _ => ⟨_, rfl⟩) _ s
  | openSession => exact launch_answers openDispatch_answers _ s
  | readReg w => exact launch_answers (busGate_answers _) _ s
  | sendCmd w => exact launch_answers (busGate_answers _) _ s
  | sendCmdArg w => exact launch_answers (busGate_answers _) _ s
  | readMeas => exact launch_answers (busGate_answers _) _ s

/-- So does a host write of any word to OPWORD, legal or not. -/
theorem launchWord_answers (v : Word) (s : State) : ∃ t, launchWord v s = .next t := by
  unfold launchWord
  split
  · exact exec_answers _ s
  · exact launch_answers (fun _ => ⟨_, rfl⟩) v s

theorem hostStep_answers (a : HostAccess) (s : State) : ∃ t, hostStep a s = .next t := by
  cases a with
  | read r => exact ⟨_, rfl⟩
  | write r v =>
    cases r with
    | opword => exact launchWord_answers v s
    | _ => exact ⟨_, rfl⟩

/-! ### Events of the timebase and answers of the transport -/

theorem settleElapsedStep_answers (s : State) : ∃ t, settleElapsedStep s = .next t := by
  unfold settleElapsedStep
  split <;> exact ⟨_, rfl⟩

/-- The answers that R55 and R56 rule out: in TX a count above the frame's length, in RX a wrong number of bytes. -/
theorem inputBreaksShape_transport (s : State) (a : Answer) :
    inputBreaksShape s (.transport a) = true ↔
      (s.phase = .tx ∧ ∃ c, a = .okCount c ∧ s.txbuf.length < c) ∨
        (s.phase = .rx ∧ ∃ bs, a = .okBytes bs ∧ bs.length ≠ s.rxlen) := by
  cases hp : s.phase <;> cases a <;> simp [inputBreaksShape, State.request, hp, Answer.answers, Answer.fits]

theorem transportStep_of_breaksShape {s : State} {a : Answer} (h : inputBreaksShape s (.transport a) = true) :
    transportStep a s = .fault .answerShape := by
  obtain ⟨hp, c, rfl, hc⟩ | ⟨hp, bs, rfl, hl⟩ := (inputBreaksShape_transport s a).mp h
  · simp [transportStep, hp, txStep, hc]
  · simp [transportStep, hp, rxStep, hl]

/-- With the control invariant, only the operations with a read phase reach RX (R39, R41, R62). -/
theorem State.ControlInv.curOp_of_rx {s : State} (h : s.ControlInv) (hp : s.phase = .rx) :
    s.curOp = .readReg ∨ s.curOp = .readMeas := by
  obtain ⟨-, -, ⟨-, hbus, hread⟩, -, -⟩ := h
  obtain ⟨-, -, -, hlen⟩ := hbus (.inr (.inr hp))
  have hpos : 0 < s.curOp.readLen := hlen ▸ hread (.inr hp)
  cases hop : s.curOp <;> simp [hop, BusOp.readLen] at hpos ⊢

theorem rxOkStep_answers {s : State} (h : s.curOp = .readReg ∨ s.curOp = .readMeas) (bs : List Byte) :
    ∃ t, rxOkStep bs s = .next t := by
  obtain ho | ho := h <;> exact ⟨_, by simp only [rxOkStep, ho]; rfl⟩

theorem openingStep_answers (a : Answer) (s : State) : ∃ t, openingStep a s = .next t := by
  cases a <;> exact ⟨_, rfl⟩

theorem txStep_answers {s : State} {a : Answer} (h : ∀ c, a = .okCount c → c ≤ s.txbuf.length) :
    ∃ t, txStep a s = .next t := by
  cases a with
  | okCount c => exact ⟨_, if_pos (h c rfl)⟩
  | _ => exact ⟨_, rfl⟩

theorem rxStep_answers {s : State} {a : Answer} (ho : s.curOp = .readReg ∨ s.curOp = .readMeas)
    (h : ∀ bs, a = .okBytes bs → bs.length = s.rxlen) : ∃ t, rxStep a s = .next t := by
  cases a with
  | okBytes bs =>
    simp only [rxStep, if_pos (h bs rfl)]
    exact rxOkStep_answers ho bs
  | _ => exact ⟨_, rfl⟩

theorem transportStep_answers {s : State} {a : Answer} (hc : s.ControlInv)
    (h : inputBreaksShape s (.transport a) = false) : ∃ t, transportStep a s = .next t := by
  have hfits := mt (inputBreaksShape_transport s a).mpr (by simp [h])
  unfold transportStep
  split
  case h_1 hp => exact ⟨_, rfl⟩
  case h_2 hp => exact openingStep_answers a s
  case h_3 hp => exact txStep_answers fun c e => not_lt.mp fun hlt => hfits (.inl ⟨hp, c, e, hlt⟩)
  case h_4 hp => exact ⟨_, rfl⟩
  case h_5 hp =>
    exact rxStep_answers (hc.curOp_of_rx hp) fun bs e => not_not.mp fun hne => hfits (.inr ⟨hp, bs, e, hne⟩)

/-! ### Any input -/

theorem inputStep_answers {s : State} {x : Input} (hc : s.ControlInv) (h : inputBreaksShape s x = false) :
    ∃ t, inputStep x s = .next t := by
  cases x with
  | host a => exact hostStep_answers a s
  | transport a => exact transportStep_answers hc h
  | tick => exact ⟨_, rfl⟩
  | settleElapsed => exact settleElapsedStep_answers s
  | reset cut => exact ⟨_, rfl⟩

theorem inputStep_of_breaksShape {s : State} {x : Input} (h : inputBreaksShape s x = true) :
    inputStep x s = .fault .answerShape := by
  cases x with
  | transport a => exact transportStep_of_breaksShape h
  | _ => cases h

theorem State.ControlInv.withInputs {s : State} (h : s.ControlInv) (xs : List Input) : (s.withInputs xs).ControlInv := h

@[simp] theorem inputBreaksShape_withInputs (s : State) (xs : List Input) (x : Input) :
    inputBreaksShape (s.withInputs xs) x = inputBreaksShape s x := rfl

/-- Settles O44: the control invariant rules out a read answered for an operation without a read phase, so that only the shape of
an answer can stop a step. -/
theorem stepStopsOnlyOnDisallowedInputs : Obligations.StepStopsOnlyOnDisallowedInputs := by
  intro s x rest hc hi
  rw [step_of_inputs hi]
  exact ⟨fun h => inputStep_answers (hc.withInputs rest) (by simpa using h),
    fun h => inputStep_of_breaksShape (by simpa using h)⟩

end Sys2Proof.Machine
end

section
/-! Proofs about single steps: what a host write, an accepted launch and an event of the block do, and what they leave unchanged
(10_state.md R24, R36 to R38, R41; 20_memory.md R52). -/

namespace Sys2Proof.Machine

/-! ### Events of the block -/

/-- An answer that is none to the outstanding request does nothing, in whatever phase it comes. -/
theorem transportStep_of_unheard {s : State} {a : Answer} (h : ∀ q, s.request = some q → a.answers q = false) :
    transportStep a s = .next s := by
  cases hp : s.phase with
  | idle | settle => simp [transportStep, hp]
  | opening =>
    have unheard : a.answers .busOpen = false := h _ (by simp [State.request, hp])
    cases a with
    | ok | err => cases unheard
    | _ => simp [transportStep, hp, openingStep]
  | tx =>
    have unheard : a.answers (.busWrite s.txbuf) = false := h _ (by simp [State.request, hp])
    cases a with
    | okCount | err => cases unheard
    | _ => simp [transportStep, hp, txStep]
  | rx =>
    have unheard : a.answers (.busRead s.rxlen) = false := h _ (by simp [State.request, hp])
    cases a with
    | okBytes | err => cases unheard
    | _ => simp [transportStep, hp, rxStep]

theorem readMeasRx_of_accepted {p : List Byte} (h : failMask p = 0) (s : State) :
    readMeasRx p s = (loadMeasurement p (rxReport (.okBytes p) s)).complete .none := if_pos h

theorem readMeasRx_of_rejected {p : List Byte} (h : failMask p ≠ 0) (s : State) :
    readMeasRx p s = { rxReport (.okBytes p) s with tripFail := failMask p }.complete .corruptPayload := if_neg h

/-- What the relation `Moved` says of an event of the transport, the timebase or the reset input is what the step does: the
converse of `inputStep_moved` for every agent but the host. -/
theorem inputStep_of_moved {s t : State} {x : Input} (h : Moved s x t) (hx : x.isHost = false) :
    inputStep x s = .next t := by
  cases h with
  | openingOk hp => simp [inputStep, transportStep, hp, openingStep]
  | openingErr hp => simp [inputStep, transportStep, hp, openingStep]
  | txErr hp => simp [inputStep, transportStep, hp, txStep]
  | txToSettle c hp hc hr => simp [inputStep, transportStep, hp, txStep, hc, txOk, hr]
  | txDone c hp hc hr => simp [inputStep, transportStep, hp, txStep, hc, txOk, hr]
  | rxErr hp => simp [inputStep, transportStep, hp, rxStep]
  | readRegRx bs hp hl ho => simp [inputStep, transportStep, hp, rxStep, hl, rxOkStep, ho]
  | measAccepted p hp hl ho hm => simp [inputStep, transportStep, hp, rxStep, hl, rxOkStep, ho,
      readMeasRx_of_accepted hm]
  | measRejected p hp hl ho hm => simp [inputStep, transportStep, hp, rxStep, hl, rxOkStep, ho,
      readMeasRx_of_rejected hm]
  | answerUnheard a h => exact transportStep_of_unheard h
  | settleElapsedUnheard hp =>
    cases h : s.phase with
    | settle => exact absurd h hp
    | _ => simp [inputStep, settleElapsedStep, h]
  | tickUnheard h => obtain hp | ht := h <;> simp [inputStep, tickStep, *]
  | tickCounts n hp ht hn => simp [inputStep, tickStep, hp, ht, Nat.not_le.mpr hn]
  | tickLeaves n hp ht hn => simp [inputStep, tickStep, hp, ht, hn]
  | settleElapsed hp => simp [inputStep, settleElapsedStep, hp]
  | reset cut => rfl
  | _ => cases hx

theorem step_of_moved {s t : State} {x : Input} {rest : List Input} (hi : s.inputs = x :: rest)
    (h : Moved (s.withInputs rest) x t) (hx : x.isHost = false) : step s = .next t := by
  rw [step_of_inputs hi, inputStep_of_moved h hx]

/-- Settles O55: in the step relation, each of these events has only the move that keeps the state. -/
theorem eventsNotWaitedForChangeNothing : Obligations.EventsNotWaitedForChangeNothing := by
  refine ⟨fun s a rest hi h => ?_, fun s a rest hi hp => ?_, fun s rest hp hi => ?_⟩
  · exact step_of_moved hi (.answerUnheard a h) rfl
  · have none_outstanding : s.request = none := by obtain hp | hp := hp <;> simp [State.request, hp]
    exact step_of_moved hi (.answerUnheard a fun q hq => by cases none_outstanding.symm.trans hq) rfl
  · obtain hi | hi := hi
    · exact step_of_moved hi (.settleElapsedUnheard hp) rfl
    · exact step_of_moved hi (.tickUnheard (.inl hp)) rfl

/-- A move of the transport or the timebase stays one when ARG and OPWORD hold other values: the operation in flight reads its
latched copies (R34). -/
theorem Moved.with_live_registers {s t : State} {x : Input} (h : Moved s x t) (hx : x.isHost = false)
    (hr : x.isReset = false) (a : Half) (v : Word) :
    Moved { s with arg := a, opword := v } x { t with arg := a, opword := v } := by
  cases h with
  | openingOk hp => exact .openingOk hp
  | openingErr hp => exact .openingErr hp
  | txErr hp => exact .txErr hp
  | txToSettle c hp hc hlen => exact .txToSettle c hp hc hlen
  | txDone c hp hc hlen => exact .txDone c hp hc hlen
  | rxErr hp => exact .rxErr hp
  | readRegRx bs hp hl ho => exact .readRegRx bs hp hl ho
  | measAccepted p hp hl ho hm => exact .measAccepted p hp hl ho hm
  | measRejected p hp hl ho hm => exact .measRejected p hp hl ho hm
  | answerUnheard a h => exact .answerUnheard a h
  | settleElapsedUnheard hp => exact .settleElapsedUnheard hp
  | tickUnheard h => exact .tickUnheard h
  | tickCounts n hp ht hn => exact .tickCounts n hp ht hn
  | tickLeaves n hp ht hn => exact .tickLeaves n hp ht hn
  | settleElapsed hp => exact .settleElapsed hp
  | reset cut => cases hr
  | _ => cases hx

/-- Settles O41: the moves of the block are the same whatever ARG and OPWORD hold. -/
theorem blockStepsIgnoreLiveRegisters : Obligations.BlockStepsIgnoreLiveRegisters := by
  intro s t a v x rest hi hx hr h
  rw [step_of_inputs hi] at h
  exact step_of_moved hi ((inputStep_moved h).with_live_registers hx hr a v) hx

/-! ### Host writes -/

/-- A write of STATUS is one update of OVR, whatever bit 2 holds (R24). -/
theorem writeStatus_eq (v : Word) (s : State) : writeStatus v s = { s with ovr := s.ovr && !v.getLsbD 2 } := by
  cases hv : v.getLsbD 2
  · rw [writeStatus, if_neg (ne_true_of_eq_false hv), Bool.not_false, Bool.and_true]
  · rw [writeStatus, if_pos hv, Bool.not_true, Bool.and_false]

/-- The registers of index 3 and above ignore a write (R52). -/
theorem hostWrite_of_readOnly {r : HostReg} (hr : 3 ≤ r.index.val) (v : Word) (s : State) :
    hostWrite r v s = .next s := by
  cases r with
  | opword | arg | status => exact absurd hr (by decide)
  | _ => rfl

/-- Settles O46, by the one update each of ARG and STATUS, and the registers that ignore every write. -/
theorem hostWrites : Obligations.HostWrites := by
  refine ⟨fun s v rest hi => ?_, fun s v rest hi => ?_, fun s r v rest hi hr => ?_⟩ <;> rw [step_of_inputs hi]
  · rfl
  · rw [extract_bit_eq]
    exact congrArg Host.Outcome.next (writeStatus_eq v _)
  · exact hostWrite_of_readOnly hr v _

end Sys2Proof.Machine
end

section
/-! Proofs about launches: the one shape of all seven, the frame of each, and what the written word has to do with the operation
(10_state.md R36 to R39; 30_encoding.md R70 to R73). -/

namespace Sys2Proof.Machine

/-! ### The word of an operation -/

/-- No bit of a legal word is lost in decoding: by R71 and R72 every field of the word is the operation's or is 0. -/
theorem encode_of_decodeWord {v : Word} {i : Instr} (h : decodeWord v = some i) : encode i = v := by
  have half : ∀ (p : Word) (op : BitVec 4), fieldW p = 0#16 → fieldB p = 0#8 → fieldZ p = 0#4 → fieldOp p = op →
      v &&& 0x0000FFFF#32 = p → opwordOf (fieldW v) 0#8 op = v := by
    rintro p op hw hb hz rfl hm
    obtain ⟨hb, hz, ho⟩ := (and_half_iff v p hw hb hz).mp hm
    rw [← hb, ← ho, opwordOf_fields hz]
  simp only [decodeWord, opRows, decodeRows, OpRow.selects, beq_iff_eq, and_full_iff] at h
  split_ifs at h with h1 h2 h3 h4 h5 h6 h7 <;> cases h
  · rw [h1]; decide
  · obtain ⟨hw, hz, ho⟩ := (and_feed_iff v).mp h2
    rw [encode, ← hw, ← ho, opwordOf_fields hz]
  · rw [h3]; decide
  · exact half _ 0x4#4 (by decide) (by decide) (by decide) (by decide) h4
  · exact half _ 0x5#4 (by decide) (by decide) (by decide) (by decide) h5
  · exact half _ 0x6#4 (by decide) (by decide) (by decide) (by decide) h6
  · rw [h7]; decide

/-! ### The one shape of all launches -/

/-- What an operation does once its launch is accepted (R38). -/
def dispatch : Instr → State → Result
  | .crcInit => fun s => .next (crcInitEffect s)
  | .crcFeed b => fun s => .next (crcFeedEffect b s)
  | .openSession => openDispatch
  | .readReg _ => busGate startReadReg
  | .sendCmd _ => busGate startSendCmd
  | .sendCmdArg _ => busGate startSendCmdArg
  | .readMeas => busGate startReadMeas

/-- Every operation's launch is the shared launch of its word, then its dispatch. -/
theorem exec_eq_launch (i : Instr) (s : State) : exec i s = launch (encode i) (dispatch i) s := by
  cases i <;> rfl

theorem exec_of_idle {s : State} (h : s.phase = .idle) (i : Instr) :
    exec i s = dispatch i (s.acceptLaunch (encode i)) := by
  rw [exec_eq_launch, launch_of_idle h]

theorem exec_of_busy {s : State} (h : s.phase ≠ .idle) (i : Instr) : exec i s = .next s.dropLaunch := by
  rw [exec_eq_launch, launch_of_busy h]

/-- While an operation is in flight the word is not looked at: legal or not, it is dropped (R36). -/
theorem launchWord_of_busy {s : State} (h : s.phase ≠ .idle) (v : Word) : launchWord v s = .next s.dropLaunch := by
  unfold launchWord
  split
  · exact exec_of_busy h _
  · exact launch_of_busy h v _

/-- Settles O7: the drop comes before anything that depends on the word. -/
theorem busyLaunchIsDropped : Obligations.BusyLaunchIsDropped := by
  intro s v rest hi hp
  rw [step_of_inputs hi]
  exact launchWord_of_busy (s := s.withInputs rest) hp v

/-! ### A closed session -/

theorem busGate_of_failed {s : State} (h : s.session = .failed) (start : State → State) :
    busGate start s = .next (s.complete .openError) := by
  simp [busGate, h]

theorem busGate_of_closed {s : State} (h : s.session = .closed) (start : State → State) :
    busGate start s = .next (s.complete .notOpen) := by
  simp [busGate, h]

/-- An accepted launch that completes at once, as one update of the idle state. -/
theorem complete_acceptLaunch {s : State} (h : s.phase = .idle) (v : Word) (e : ErrCode) :
    (s.acceptLaunch v).complete e = { s with
      opword := v, done := true, err := e, ioPhase := false, tripFail := 0, settleTimer := none } := by
  simp [State.acceptLaunch, State.complete, h]

/-- The bus operations other than OPEN dispatch through the session checks (R38). -/
theorem dispatch_eq_busGate {i : Instr} (h : i = .readMeas ∨ ∃ w, i = .readReg w ∨ i = .sendCmd w ∨ i = .sendCmdArg w) :
    ∃ start, dispatch i = busGate start := by
  obtain rfl | ⟨w, rfl | rfl | rfl⟩ := h <;> exact ⟨_, rfl⟩

/-- Settles O22: the session checks complete the accepted launch before anything else is done. -/
theorem busOperationNeedsAnOpenSession : Obligations.BusOperationNeedsAnOpenSession := by
  intro s i hp hi
  obtain ⟨start, hd⟩ := dispatch_eq_busGate hi
  rw [exec_of_idle hp, hd]
  exact ⟨fun hs => by rw [busGate_of_failed (s := s.acceptLaunch _) hs, complete_acceptLaunch hp],
    fun hs => by rw [busGate_of_closed (s := s.acceptLaunch _) hs, complete_acceptLaunch hp]⟩

/-! ### The frame of a launch -/

theorem State.SameResults.refl (s : State) : s.SameResults s := ⟨rfl, rfl, rfl, rfl, rfl, rfl, rfl, rfl, rfl, rfl, rfl⟩

/-- What the dispatch of an operation does to an accepted launch (R38): it keeps every register but CRC and STATUS, the session
and all records, and leaves the operation complete, or in flight with DONE and ERR as they were. -/
structure State.Dispatched (s t : State) : Prop where
  results : s.SameResults t
  opword : t.opword = s.opword
  arg : t.arg = s.arg
  ovr : t.ovr = s.ovr
  ioPhase : t.ioPhase = s.ioPhase
  tripFail : t.tripFail = s.tripFail
  txLen : t.txLen = s.txLen
  txCount : t.txCount = s.txCount
  session : t.session = s.session
  history : t.history = s.history
  reads : t.reads = s.reads
  inputs : t.inputs = s.inputs
  goesOn : (t.phase = .idle ∧ t.done = true) ∨ (t.phase ≠ .idle ∧ t.done = s.done ∧ t.err = s.err)

theorem State.Dispatched.complete (s : State) (e : ErrCode) : s.Dispatched (s.complete e) :=
  ⟨.refl s, rfl, rfl, rfl, rfl, rfl, rfl, rfl, rfl, rfl, rfl, rfl, .inl ⟨rfl, rfl⟩⟩

theorem State.Dispatched.writeCrc (s : State) (c : Byte) (e : ErrCode) : s.Dispatched ({ s with crc := c }.complete e) :=
  ⟨.refl s, rfl, rfl, rfl, rfl, rfl, rfl, rfl, rfl, rfl, rfl, rfl, .inl ⟨rfl, rfl⟩⟩

theorem State.Dispatched.startOp (s : State) (op : BusOp) {p : Phase} (hp : p ≠ .idle) : s.Dispatched (s.startOp op p) :=
  ⟨.refl s, rfl, rfl, rfl, rfl, rfl, rfl, rfl, rfl, rfl, rfl, rfl, .inr ⟨hp, rfl, rfl⟩⟩

theorem State.Dispatched.startTx (s : State) (op : BusOp) (f : List Byte) (n : Nat) : s.Dispatched (s.startTx op f n) :=
  ⟨.refl s, rfl, rfl, rfl, rfl, rfl, rfl, rfl, rfl, rfl, rfl, rfl, .inr ⟨nofun, rfl, rfl⟩⟩

theorem openDispatch_dispatched {s t : State} (h : openDispatch s = .next t) : s.Dispatched t ∧ t.crc = s.crc := by
  unfold openDispatch at h
  split at h <;> cases h
  · exact ⟨.complete s _, rfl⟩
  · exact ⟨.complete s _, rfl⟩
  · exact ⟨.startOp s _ nofun, rfl⟩

theorem busGate_dispatched {start : State → State} {s t : State}
    (hstart : s.Dispatched (start s) ∧ (start s).crc = s.crc) (h : busGate start s = .next t) :
    s.Dispatched t ∧ t.crc = s.crc := by
  obtain ⟨-, rfl⟩ | ⟨-, rfl⟩ | ⟨-, rfl⟩ := busGate_next h
  · exact ⟨.complete s _, rfl⟩
  · exact ⟨.complete s _, rfl⟩
  · exact hstart

/-- Every dispatch has the one frame, and only the two checksum operations write CRC (R26). -/
theorem dispatch_dispatched {i : Instr} {s t : State} (h : dispatch i s = .next t) :
    s.Dispatched t ∧ (t.crc = s.crc ∨ i = .crcInit ∨ ∃ b, i = .crcFeed b) := by
  cases i with
  | crcInit => cases h; exact ⟨.writeCrc s _ _, .inr (.inl rfl)⟩
  | crcFeed b => cases h; exact ⟨.writeCrc s _ _, .inr (.inr ⟨b, rfl⟩)⟩
  | openSession => exact (openDispatch_dispatched h).imp_right .inl
  | readReg w => exact (busGate_dispatched ⟨.startTx s _ _ _, rfl⟩ h).imp_right .inl
  | sendCmd w => exact (busGate_dispatched ⟨.startTx s _ _ _, rfl⟩ h).imp_right .inl
  | sendCmdArg w => exact (busGate_dispatched ⟨.startTx s _ _ _, rfl⟩ h).imp_right .inl
  | readMeas => exact (busGate_dispatched ⟨.startTx s _ _ _, rfl⟩ h).imp_right .inl

/-- Settles O10: a launch is dropped, or it is accepted and has the frame of its dispatch. -/
theorem launchFrame : Obligations.LaunchFrame := by
  intro i s t h
  by_cases hp : s.phase = .idle
  · rw [exec_of_idle hp] at h
    obtain ⟨d, hcrc⟩ := dispatch_dispatched h
    exact ⟨d.results, d.arg, d.txLen, d.txCount, d.session, d.history, d.reads, d.inputs, hcrc.resolve_left,
      fun _ => d.ovr, fun hb => absurd hp hb⟩
  · rw [exec_of_busy hp] at h
    cases h
    exact ⟨.refl s, rfl, rfl, rfl, rfl, rfl, rfl, rfl, fun hne => absurd rfl hne, fun hi => absurd hi hp, fun _ => rfl⟩

/-- An accepted launch of any word, legal or not, stores the word and dispatches (R37, R74). -/
theorem launchWord_dispatched {v : Word} {s t : State} (hp : s.phase = .idle) (h : launchWord v s = .next t) :
    (s.acceptLaunch v).Dispatched t := by
  unfold launchWord at h
  split at h
  next i hd =>
    rw [exec_of_idle hp, encode_of_decodeWord hd] at h
    exact (dispatch_dispatched h).1
  next =>
    rw [launch_of_idle hp] at h
    cases h
    exact .complete _ _

/-- Settles O8: the dispatch keeps what the accepted launch has stored and cleared. -/
theorem acceptedLaunchStoresTheWord : Obligations.AcceptedLaunchStoresTheWord := by
  intro s v hp
  obtain ⟨t, h⟩ := launchWord_answers v s
  have d := launchWord_dispatched hp h
  exact ⟨t, h, d.opword, d.ioPhase, d.tripFail, d.ovr, d.session, d.results, d.goesOn⟩

end Sys2Proof.Machine
end

section
/-! Proofs about the registers the host reads: the fields of STATUS and the bytes of the stored payload (10_state.md R23, R29). -/

namespace Sys2Proof.Machine

/-! ### The fields of STATUS -/

/-- A field of STATUS read back at its own place. -/
theorem extractLsb'_statusField_self {w : Nat} (v : BitVec w) {n : Nat} (h : n + w ≤ 32) :
    (statusField v n).extractLsb' n w = v := by
  apply BitVec.eq_of_getLsbD_eq
  intro i hi
  simp [getElem_statusField, hi, show n + i < 32 by omega]

/-- A field of STATUS has no bit outside its place. -/
theorem extractLsb'_statusField_of_disjoint {w : Nat} (v : BitVec w) {n m k : Nat} (h : n + w ≤ m ∨ m + k ≤ n) :
    (statusField v n).extractLsb' m k = 0#k := by
  apply BitVec.eq_of_getLsbD_eq
  intro i hi
  obtain h | h := h
  · simp [getLsbD_statusField, BitVec.getLsbD_of_ge v (m + i - n) (by omega)]
  · simp [getLsbD_statusField, show ¬ n ≤ m + i by omega]

/-- The session's code stands at bits 7:6 (R23, R32). -/
theorem extractLsb'_status_session (s : State) : (s.hostValue .status).extractLsb' 6 2 = s.session.code := by
  simp [State.statusWord, BitVec.extractLsb'_or, extractLsb'_statusField_self, extractLsb'_statusField_of_disjoint]

/-- The error's code stands at bits 11:8 (R23, R210). -/
theorem extractLsb'_status_err (s : State) : (s.hostValue .status).extractLsb' 8 4 = s.err.code := by
  simp [State.statusWord, BitVec.extractLsb'_or, extractLsb'_statusField_self, extractLsb'_statusField_of_disjoint]

theorem extractLsb'_status_tripFail (s : State) : (s.hostValue .status).extractLsb' 16 6 = s.tripFail := by
  simp [State.statusWord, BitVec.extractLsb'_or, extractLsb'_statusField_self, extractLsb'_statusField_of_disjoint]

/-- Bits 15:12 and 31:22 are in no field (R23). -/
theorem extractLsb'_status_reserved (s : State) {m k : Nat} (h : 12 ≤ m ∧ m + k ≤ 16 ∨ 22 ≤ m) :
    (s.hostValue .status).extractLsb' m k = 0#k := by
  simp only [State.hostValue_status, State.statusWord, BitVec.extractLsb'_or]
  repeat rw [extractLsb'_statusField_of_disjoint _ (by omega)]
  simp

theorem toNat_sessionCode (c : Session) :
    c.code.toNat = (match c with | .closed => 0 | .opened => 1 | .failed => 2) := by
  cases c <;> rfl

theorem toNat_errCode (e : ErrCode) :
    e.code.toNat =
      (match e with
        | .none => 0 | .ioError => 1 | .corruptPayload => 2 | .openError => 3 | .notOpen => 4 | .illegalOp => 5) := by
  cases e <;> rfl

/-- The one-bit fields of STATUS, at bits 0 to 5 (R23). -/
theorem getLsbD_status_flags (s : State) :
    (s.hostValue .status).getLsbD 0 = s.busy ∧ (s.hostValue .status).getLsbD 1 = s.done ∧
      (s.hostValue .status).getLsbD 2 = s.ovr ∧ (s.hostValue .status).getLsbD 3 = s.rdataValid ∧
      (s.hostValue .status).getLsbD 4 = s.measValid ∧ (s.hostValue .status).getLsbD 5 = s.ioPhase := by
  simp [State.statusWord, getElem_statusField]

/-- Settles O47, field by field. -/
theorem statusFieldPositions : Obligations.StatusFieldPositions := by
  intro s
  obtain ⟨hbusy, hdone, hovr, hrdata, hmeas, hio⟩ := getLsbD_status_flags s
  exact ⟨by rw [hbusy, State.busy_eq_true], hdone, hovr, hrdata, hmeas, hio,
    by rw [extractLsb'_status_session]; exact toNat_sessionCode _,
    by rw [extractLsb'_status_err]; exact toNat_errCode _,
    extractLsb'_status_reserved s (by omega), extractLsb'_status_tripFail s, extractLsb'_status_reserved s (by omega)⟩

/-! ### The stored payload -/

/-- The four bytes packed into a register, read back in order (R29, R59). -/
theorem wordBytes_wordOf (b0 b1 b2 b3 : Byte) : wordBytes (wordOf (halfOf b0 b1) (halfOf b2 b3)) = [b0, b1, b2, b3] := by
  have l1 := b1.isLt
  have l2 := b2.isLt
  have l3 := b3.isLt
  simp only [wordBytes, List.cons.injEq, and_true]
  refine ⟨?_, ?_, ?_, ?_⟩ <;> apply BitVec.eq_of_toNat_eq <;>
    simp only [BitVec.extractLsb'_toNat, toNat_wordOf, toNat_halfOf, Nat.shiftRight_eq_div_pow] <;> omega

/-- A sequence of known length is its bytes by index. -/
theorem map_byteAt_range (p : List Byte) : (List.range p.length).map (byteAt p) = p := by
  apply List.ext_getElem
  · simp
  · intro i h _
    simp at h
    simp [byteAt, h]

/-- An accepted payload is what the five registers hold (R29). -/
theorem payloadBytes_loadMeasurement {p : List Byte} (h : p.length = 18) (s : State) :
    (loadMeasurement p s).payloadBytes = p := by
  have bytes : (loadMeasurement p s).payloadBytes = (List.range 18).map (byteAt p) := by
    simp [State.payloadBytes, loadMeasurement, packWord, packLast, wordBytes_wordOf]
    rfl
  rw [bytes, ← h, map_byteAt_range]

/-- PAYLOAD4 as the host reads it has its one stored half in the upper bits (R29). -/
theorem State.hostValue_payload4 (s : State) : s.hostValue .payload4 = wordOf s.payload4 0#16 := by
  simp [State.hostValue, wordOf]

/-- Settles O20: packing and unpacking the registers are inverse, and PAYLOAD4 is a half above zeros. -/
theorem payloadRegistersHoldTheBytes : Obligations.PayloadRegistersHoldTheBytes := by
  refine ⟨fun s p h => payloadBytes_loadMeasurement h s, fun s => ?_⟩
  rw [State.hostValue_payload4]
  refine ⟨?_, ?_, ?_⟩ <;> apply BitVec.eq_of_toNat_eq <;>
    simp only [BitVec.extractLsb'_toNat, toNat_wordOf, toNat_loByte, toNat_hiByte, Nat.shiftRight_eq_div_pow,
      BitVec.toNat_ofNat] <;> omega

end Sys2Proof.Machine
end

section
/-! Proofs about what a step other than a reset may change: for each group of fields, the few moves that change it. All other moves
of the step relation leave it as it was, by the definition of their updates (10_state.md R25 to R29, R32, R41, R42). -/

namespace Sys2Proof.Machine

/-! ### The accumulator -/

theorem Moved.crc_eq_or {s t : State} {x : Input} (h : Moved s x t) (hr : x.isReset = false) :
    t.crc = s.crc ∨ s.phase = .idle ∧ ∃ v, x = .host (.write .opword v) ∧
      (decodeWord v = some .crcInit ∨ ∃ b, decodeWord v = some (.crcFeed b)) := by
  cases h with
  | crcInit v hp hd => exact .inr ⟨hp, v, rfl, .inl hd⟩
  | crcFeed v b hp hd => exact .inr ⟨hp, v, rfl, .inr ⟨b, hd⟩⟩
  | reset => cases hr
  | _ => exact .inl rfl

/-- Settles O39: the two checksum launches are the only moves that write CRC. -/
theorem crcChangesOnlyByChecksumOperations : Obligations.CrcChangesOnlyByChecksumOperations := by
  intro s t x rest hi h hr hne
  rw [step_of_inputs hi] at h
  exact ((inputStep_moved h).crc_eq_or hr).resolve_left hne

/-! ### TXCOUNT -/

theorem Moved.txCount_eq_or {s t : State} {x : Input} (h : Moved s x t) (hr : x.isReset = false) :
    (t.txLen = s.txLen ∧ t.txCount = s.txCount) ∨
      s.phase = .tx ∧ t.txLen = BitVec.ofNat 8 s.txbuf.length ∧
        ((x = .transport .err ∧ t.txCount = 0#8) ∨
          ∃ c, x = .transport (.okCount c) ∧ c ≤ s.txbuf.length ∧ t.txCount = BitVec.ofNat 8 c) := by
  cases h with
  | txErr hp => exact .inr ⟨hp, rfl, .inl ⟨rfl, rfl⟩⟩
  | txToSettle c hp hc _ => exact .inr ⟨hp, rfl, .inr ⟨c, rfl, hc, rfl⟩⟩
  | txDone c hp hc _ => exact .inr ⟨hp, rfl, .inr ⟨c, rfl, hc, rfl⟩⟩
  | reset => cases hr
  | _ => exact .inl ⟨rfl, rfl⟩

/-- Settles O43: the three moves out of TX are the only ones that write TXCOUNT. -/
theorem txcountChangesOnlyInWritePhases : Obligations.TxcountChangesOnlyInWritePhases := by
  intro s t x rest hi h hr hne
  rw [step_of_inputs hi] at h
  exact ((inputStep_moved h).txCount_eq_or hr).resolve_left (not_and_or.mpr hne)

/-! ### The result registers -/

/-- RDATA is written by READ_REG's successful read and the measurement registers by READ_MEAS's, and each sets its VALID bit. -/
theorem Moved.sameResults_or {s t : State} {x : Input} (h : Moved s x t) (hr : x.isReset = false) :
    s.SameResults t ∨
      s.phase = .rx ∧ (∃ bs, x = .transport (.okBytes bs)) ∧ t.phase = .idle ∧ t.done = true ∧ t.err = .none ∧
        ((s.curOp = .readReg ∧ t.rdataValid = true ∧ t.measValid = s.measValid ∧ t.co2 = s.co2 ∧ t.temp = s.temp ∧
            t.rh = s.rh ∧ t.payload0 = s.payload0 ∧ t.payload1 = s.payload1 ∧ t.payload2 = s.payload2 ∧
            t.payload3 = s.payload3 ∧ t.payload4 = s.payload4) ∨
          (s.curOp = .readMeas ∧ t.measValid = true ∧ t.rdata = s.rdata ∧ t.rdataValid = s.rdataValid)) := by
  cases h with
  | readRegRx bs hp _ ho =>
    exact .inr ⟨hp, ⟨bs, rfl⟩, rfl, rfl, rfl, .inl ⟨ho, rfl, rfl, rfl, rfl, rfl, rfl, rfl, rfl, rfl, rfl⟩⟩
  | measAccepted p hp _ ho _ => exact .inr ⟨hp, ⟨p, rfl⟩, rfl, rfl, rfl, .inr ⟨ho, rfl, rfl, rfl⟩⟩
  | reset => cases hr
  | _ => exact .inl (.refl s)

/-- Settles O42: the two successful reads are the only moves that write results. -/
theorem resultsChangeOnlyAtSuccess : Obligations.ResultsChangeOnlyAtSuccess := by
  intro s t x rest hi h hr hne
  rw [step_of_inputs hi] at h
  exact ((inputStep_moved h).sameResults_or hr).resolve_left hne

/-! ### The session -/

theorem Moved.session_eq_or {s t : State} {x : Input} (h : Moved s x t) :
    t.session = s.session ∨ (s.phase = .opening ∧ x = .transport .ok ∧ t.session = .opened) ∨
      (s.phase = .opening ∧ x = .transport .err ∧ t.session = .failed) ∨ (x.isReset = true ∧ t.session = .closed) := by
  cases h with
  | openingOk hp => exact .inr (.inl ⟨hp, rfl, rfl⟩)
  | openingErr hp => exact .inr (.inr (.inl ⟨hp, rfl, rfl⟩))
  | reset => exact .inr (.inr (.inr ⟨rfl, rfl⟩))
  | _ => exact .inl rfl

/-- With the control invariant an OPEN is in flight in a closed session only, so no other step changes the session (R32). -/
theorem Moved.session_eq_of_not_closed {s t : State} {x : Input} (hc : s.ControlInv) (h : Moved s x t)
    (hr : x.isReset = false) (hs : s.session ≠ .closed) : t.session = s.session := by
  obtain ⟨-, -, ⟨hopening, -, -⟩, -, -⟩ := hc
  obtain he | ⟨hp, -, -⟩ | ⟨hp, -, -⟩ | ⟨hx, -⟩ := h.session_eq_or
  · exact he
  · exact absurd (hopening hp).1 hs
  · exact absurd (hopening hp).1 hs
  · rw [hr] at hx; cases hx

/-- Settles O23: by the moves that write the session; with the control invariant these start from a closed one. -/
theorem sessionChangesOnlyByOpenAndReset : Obligations.SessionChangesOnlyByOpenAndReset := by
  refine ⟨rfl, fun s t x rest hi h hne => ?_, fun s t x rest hc hi h hr => ?_, fun s => ?_⟩
  · rw [step_of_inputs hi] at h
    exact (inputStep_moved h).session_eq_or.resolve_left hne
  · rw [step_of_inputs hi] at h
    have keeps := (inputStep_moved h).session_eq_of_not_closed (hc.withInputs rest) hr
    exact ⟨fun hs => (keeps (by simp [hs])).trans hs, fun hs => (keeps (by simp [hs])).trans hs⟩
  · rw [extractLsb'_status_session]
    exact toNat_sessionCode _

/-! ### The phase -/

/-- The moves that change the phase, in the order of R41. The launches that complete at once stay in IDLE. -/
theorem Moved.phase_eq_or {s t : State} {x : Input} (h : Moved s x t) (hr : x.isReset = false) :
    t.phase = s.phase ∨
      (s.phase = .idle ∧ (t.phase = .opening ∨ t.phase = .tx) ∧ ∃ v, x = .host (.write .opword v)) ∨
      (s.phase = .opening ∧ t.phase = .idle ∧ t.done = true ∧ x.isTransport = true) ∨
      (s.phase = .tx ∧ t.phase = .idle ∧ t.done = true ∧ x.isTransport = true) ∨
      (s.phase = .tx ∧ t.phase = .settle ∧ 0 < s.rxlen ∧ ∃ c, x = .transport (.okCount c)) ∨
      (s.phase = .settle ∧ t.phase = .rx ∧ x.isTimebase = true) ∨
      (s.phase = .rx ∧ t.phase = .idle ∧ t.done = true ∧ x.isTransport = true) := by
  cases h with
  | illegal _ hp _ | crcInit _ hp _ | crcFeed _ _ hp _ | sessionFailed _ _ hp _ _ | sessionClosed _ _ hp _ _
  | alreadyOpen _ hp _ _ => exact .inl hp.symm
  | startOpen v hp _ _ => exact .inr (.inl ⟨hp, .inl rfl, v, rfl⟩)
  | startReadReg v _ hp _ _ | startSendCmd v _ hp _ _ | startSendCmdArg v _ hp _ _ | startReadMeas v hp _ _ =>
    exact .inr (.inl ⟨hp, .inr rfl, v, rfl⟩)
  | openingOk hp | openingErr hp => exact .inr (.inr (.inl ⟨hp, rfl, rfl, rfl⟩))
  | txErr hp | txDone _ hp _ _ => exact .inr (.inr (.inr (.inl ⟨hp, rfl, rfl, rfl⟩)))
  | txToSettle c hp _ hlen => exact .inr (.inr (.inr (.inr (.inl ⟨hp, rfl, hlen, c, rfl⟩))))
  | tickLeaves _ hp _ _ | settleElapsed hp => exact .inr (.inr (.inr (.inr (.inr (.inl ⟨hp, rfl, rfl⟩)))))
  | rxErr hp | readRegRx _ hp _ _ | measAccepted _ hp _ _ _ | measRejected _ hp _ _ _ =>
    exact .inr (.inr (.inr (.inr (.inr (.inr ⟨hp, rfl, rfl, rfl⟩)))))
  | reset => cases hr
  | _ => exact .inl rfl

/-- Settles O28: each move that changes the phase is in one of R41's six classes. -/
theorem phaseOrder : Obligations.PhaseOrder := by
  intro s t x rest hi h hr hne
  rw [step_of_inputs hi] at h
  exact ((inputStep_moved h).phase_eq_or hr).resolve_left hne

end Sys2Proof.Machine
end

section
/-! Proofs that every step keeps the control invariant: one rule each for the end of an operation, the start of one and the moves
in flight, and then the step relation move by move (10_state.md R23, R31, R37 to R41; 60_exceptions.md R210). -/

namespace Sys2Proof.Machine

/-! ### What the invariant says in a phase -/

/-- While an operation is in flight, IO_PHASE and TRIP_FAIL are as the launch has cleared them (R37). -/
theorem State.ControlInv.info_clear {s : State} (h : s.ControlInv) (hp : s.phase ≠ .idle) :
    s.ioPhase = false ∧ s.tripFail = 0 := by
  obtain ⟨hflight, -⟩ := h
  obtain ⟨-, -, hio, htrip⟩ := hflight hp
  exact ⟨hio, htrip⟩

theorem State.ControlInv.lengthsOk {s : State} (h : s.ControlInv) : s.LengthsOk := by
  obtain ⟨-, -, -, -, hlen⟩ := h
  exact hlen

theorem State.ControlInv.timer_stopped {s : State} (h : s.ControlInv) (hp : s.phase ≠ .settle) :
    s.settleTimer.isSome ≠ true := by
  obtain ⟨-, -, -, htimer, -⟩ := h
  exact mt htimer.mp hp

/-! ### The end of an operation -/

/-- An ended operation needs the error's info fields and the lengths in order: no phase, no timer. -/
theorem State.ControlInv.complete {s : State} {e : ErrCode} (he : (s.complete e).ErrInfoAgrees) (hl : s.LengthsOk) :
    (s.complete e).ControlInv :=
  ⟨by simp [State.StatusInFlight], he, by simp [State.PhaseAgrees], by simp [State.TimerAgrees], hl⟩

/-- With IO_PHASE and TRIP_FAIL at 0, an error code needs only what it says of the session (R210). -/
theorem State.complete_errInfoAgrees {s : State} {e : ErrCode} (h : s.ioPhase = false ∧ s.tripFail = 0)
    (hcorrupt : e ≠ .corruptPayload) (hopen : e = .openError → s.session = .failed)
    (hnot : e = .notOpen → s.session = .closed) : (s.complete e).ErrInfoAgrees :=
  ⟨by simp [h.1], by simp [h.2, hcorrupt], hopen, hnot⟩

/-- IO_ERROR may come with either value of IO_PHASE (R23, R210). -/
theorem State.ioError_errInfoAgrees {s : State} (h : s.tripFail = 0) : (s.complete .ioError).ErrInfoAgrees := by
  simp [State.ErrInfoAgrees, h]

/-- CORRUPT_PAYLOAD comes with a TRIP_FAIL that is not 0 (R23, R210). -/
theorem State.corruptPayload_errInfoAgrees {s : State} (hio : s.ioPhase = false) (h : s.tripFail ≠ 0) :
    (s.complete .corruptPayload).ErrInfoAgrees :=
  ⟨by simp [hio], by simpa using h, nofun, nofun⟩

/-- An operation in flight that succeeds. -/
theorem State.ControlInv.success_errInfoAgrees {s : State} (h : s.ControlInv) (hp : s.phase ≠ .idle) :
    (s.complete .none).ErrInfoAgrees :=
  complete_errInfoAgrees (h.info_clear hp) nofun nofun nofun

/-- An accepted launch that completes at once (R37, R38). -/
theorem State.ControlInv.complete_launch {s : State} (h : s.ControlInv) (v : Word) {e : ErrCode}
    (hcorrupt : e ≠ .corruptPayload) (hopen : e = .openError → s.session = .failed) (hnot : e = .notOpen → s.session = .closed) :
    ((s.acceptLaunch v).complete e).ControlInv :=
  .complete (complete_errInfoAgrees ⟨rfl, rfl⟩ hcorrupt hopen hnot) h.lengthsOk

/-! ### The start of an operation -/

/-- A launch that requests BusOpen (R121). -/
theorem State.ControlInv.startOpen {s : State} (h : s.ControlInv) (hp : s.phase = .idle) (hs : s.session = .closed)
    (v : Word) : ((s.acceptLaunch v).startOp .openSession .opening).ControlInv :=
  ⟨by simp [State.StatusInFlight], by simp [State.ErrInfoAgrees], by simp [State.PhaseAgrees, hs],
    by simpa [State.TimerAgrees] using h.timer_stopped (by simp [hp]), h.lengthsOk⟩

theorem length_busOpFrame {op : BusOp} (ho : op ≠ .openSession) (w a : Half) :
    (op.frame w a).length = 2 ∨ (op.frame w a).length = 5 := by
  cases op with
  | openSession => exact absurd rfl ho
  | sendCmdArg => exact .inr rfl
  | readReg | sendCmd | readMeas => exact .inl rfl

theorem busOpReadLen_ok (op : BusOp) : op.readLen = 0 ∨ op.readLen = 2 ∨ op.readLen = 18 := by cases op <;> decide

/-- A launch that starts a write phase (R39): any operation but OPEN, with its own frame and read length. -/
theorem State.ControlInv.startTx {s : State} (h : s.ControlInv) (hp : s.phase = .idle) (hs : s.session = .opened) (v : Word)
    {op : BusOp} (ho : op ≠ .openSession) :
    ((s.acceptLaunch v).startTx op (op.frame (fieldW v) s.arg) op.readLen).ControlInv := by
  obtain ⟨-, -, hcounts⟩ := h.lengthsOk
  exact ⟨by simp [State.StatusInFlight], by simp [State.ErrInfoAgrees], by simp [State.PhaseAgrees, hs, ho],
    by simpa [State.TimerAgrees] using h.timer_stopped (by simp [hp]), length_busOpFrame ho _ _, busOpReadLen_ok op,
    hcounts⟩

/-! ### The moves in flight -/

/-- What a write phase reports keeps the lengths in order: LEN is the frame's, and COUNT does not exceed it (R27, R55). -/
theorem txReport_lengthsOk {s : State} (h : s.LengthsOk) (a : Answer) {c : Nat} (hc : c ≤ s.txbuf.length) :
    (txReport a c s).LengthsOk := by
  obtain ⟨hframe, hread, -, -⟩ := h
  refine ⟨hframe, hread, ?_, ?_⟩
  · obtain hl | hl := hframe <;> simp [txReport, hl]
  · simp only [txReport, BitVec.toNat_ofNat]
    omega

/-- From TX to SETTLE (R41, R252): the operation goes on, and the timer runs. -/
theorem State.ControlInv.enterSettle {s : State} (h : s.ControlInv) (hp : s.phase = .tx) (hr : 0 < s.rxlen) {c : Nat}
    (hc : c ≤ s.txbuf.length) : (Machine.enterSettle (txReport (.okCount c) c s)).ControlInv := by
  have lengths := txReport_lengthsOk h.lengthsOk (.okCount c) hc
  obtain ⟨hflight, herr, ⟨-, hbus, -⟩, -, -⟩ := h
  exact ⟨fun _ => hflight (by simp [hp]), herr, ⟨nofun, fun _ => hbus (.inl hp), fun _ => hr⟩,
    by simp [State.TimerAgrees, Machine.enterSettle], lengths⟩

/-- A tick that does not end the interval (R252). -/
theorem State.ControlInv.tickCounts {s : State} (h : s.ControlInv) (hp : s.phase = .settle) (n : Nat) :
    { s with settleTimer := some n }.ControlInv := by
  obtain ⟨hflight, herr, hphase, -, hlen⟩ := h
  exact ⟨hflight, herr, hphase, by simp [State.TimerAgrees, hp], hlen⟩

/-- From SETTLE to RX (R41, R252). -/
theorem State.ControlInv.leaveSettle {s : State} (h : s.ControlInv) (hp : s.phase = .settle) :
    (Machine.leaveSettle s).ControlInv := by
  obtain ⟨hflight, herr, ⟨-, hbus, hread⟩, -, hlen⟩ := h
  exact ⟨fun _ => hflight (by simp [hp]), herr, ⟨nofun, fun _ => hbus (.inr (.inl hp)), fun _ => hread (.inl hp)⟩,
    by simp [State.TimerAgrees, Machine.leaveSettle], hlen⟩

theorem reset_controlInv : State.reset.ControlInv := by decide

/-! ### Every move, every step -/

theorem Moved.controlInv {s t : State} {x : Input} (hc : s.ControlInv) (h : Moved s x t) : t.ControlInv := by
  have hl := hc.lengthsOk
  cases h with
  | illegal v => exact hc.complete_launch v nofun nofun nofun
  | crcInit => exact hc.complete_launch (encode .crcInit) nofun nofun nofun
  | crcFeed _ b => exact hc.complete_launch (encode (.crcFeed b)) nofun nofun nofun
  | alreadyOpen => exact hc.complete_launch (encode .openSession) nofun nofun nofun
  | sessionFailed v i _ _ hs => exact hc.complete_launch _ nofun (fun _ => hs) nofun
  | sessionClosed v i _ _ hs => exact hc.complete_launch _ nofun nofun (fun _ => hs)
  | startOpen v hp _ hs => exact hc.startOpen hp hs _
  | startReadReg v w hp _ hs => exact hc.startTx hp hs _ (op := .readReg) nofun
  | startSendCmd v w hp _ hs => exact hc.startTx hp hs _ (op := .sendCmd) nofun
  | startSendCmdArg v w hp _ hs => exact hc.startTx hp hs _ (op := .sendCmdArg) nofun
  | startReadMeas v hp _ hs => exact hc.startTx hp hs _ (op := .readMeas) nofun
  | openingOk hp =>
    exact .complete (State.complete_errInfoAgrees (hc.info_clear (by simp [hp])) nofun nofun nofun) hl
  | openingErr hp =>
    exact .complete (State.complete_errInfoAgrees (hc.info_clear (by simp [hp])) nofun (fun _ => rfl) nofun) hl
  | txErr hp =>
    exact .complete (State.ioError_errInfoAgrees (hc.info_clear (by simp [hp])).2)
      (txReport_lengthsOk hl .err (Nat.zero_le _))
  | txToSettle c hp hle hr => exact hc.enterSettle hp hr hle
  | txDone c hp hle _ =>
    exact .complete (hc.success_errInfoAgrees (by simp [hp])) (txReport_lengthsOk hl (.okCount c) hle)
  | rxErr hp => exact .complete (State.ioError_errInfoAgrees (hc.info_clear (by simp [hp])).2) hl
  | readRegRx _ hp | measAccepted _ hp => exact .complete (hc.success_errInfoAgrees (by simp [hp])) hl
  | measRejected _ hp _ _ hm =>
    exact .complete (State.corruptPayload_errInfoAgrees (hc.info_clear (by simp [hp])).1 hm) hl
  | tickCounts n hp => exact hc.tickCounts hp (n - 1)
  | tickLeaves _ hp | settleElapsed hp => exact hc.leaveSettle hp
  | reset => exact reset_controlInv
  | read | writeArg | clearOvr | keepOvr | ignored | dropped | answerUnheard | settleElapsedUnheard | tickUnheard =>
    exact hc

/-- Settles O36, move by move. -/
theorem stepKeepsControl : Obligations.StepKeepsControl := by
  intro s t hc h
  obtain ⟨-, rfl⟩ | ⟨x, rest, -, h⟩ := step_moved h
  · exact hc
  · exact h.controlInv (hc.withInputs rest)

end Sys2Proof.Machine
end

section
/-! Proofs about the bus history: what one step adds to it, and that every read stays directly after the write of its operation
(20_memory.md R58, R62, R63; 41_frame_protocol.md R128). -/

namespace Sys2Proof.Machine

/-! ### What a step adds to the history -/

/-- The events that the end of the outstanding request can leave: an answer of a shape R54 to R56 allow, or a reset after some of
its bytes (R241). -/
def State.CanEndWith (s : State) (e : BusEvent) : Prop :=
  s.request = some e.request ∧
    ((∃ a, e.ending = .answered a ∧ a.fits e.request = true) ∨ ∃ k, e.ending = .abandoned k ∧ k ≤ e.request.size)

theorem State.CanEndWith.answered {s : State} {q : BusRequest} {a : Answer} (hq : s.request = some q)
    (ha : a.fits q = true) : s.CanEndWith ⟨q, .answered a⟩ := ⟨hq, .inl ⟨a, rfl, ha⟩⟩

theorem fits_okCount {f : List Byte} {c : Nat} (h : c ≤ f.length) : Answer.fits (.busWrite f) (.okCount c) = true :=
  decide_eq_true h

theorem fits_okBytes {n : Nat} {bs : List Byte} (h : bs.length = n) : Answer.fits (.busRead n) (.okBytes bs) = true :=
  beq_iff_eq.mpr h

theorem State.request_of_opening {s : State} (hp : s.phase = .opening) : s.request = some .busOpen := by
  simp [State.request, hp]

theorem State.request_of_tx {s : State} (hp : s.phase = .tx) : s.request = some (.busWrite s.txbuf) := by
  simp [State.request, hp]

theorem State.request_of_rx {s : State} (hp : s.phase = .rx) : s.request = some (.busRead s.rxlen) := by
  simp [State.request, hp]

/-- The three requests, each in the phase that waits for it (R33). -/
theorem State.request_eq_some {s : State} {q : BusRequest} (hq : s.request = some q) :
    (s.phase = .opening ∧ q = .busOpen) ∨ (s.phase = .tx ∧ q = .busWrite s.txbuf) ∨
      (s.phase = .rx ∧ q = .busRead s.rxlen) := by
  cases hp : s.phase <;> simp_all [State.request]

/-- A reset records the outstanding request, if there is one, as abandoned (R241). -/
theorem State.abandonedEvents_eq_or (s : State) (cut : Nat) :
    s.abandonedEvents cut = [] ∨ ∃ e, s.CanEndWith e ∧ s.abandonedEvents cut = [e] := by
  unfold State.abandonedEvents
  cases hq : s.request with
  | none => exact .inl rfl
  | some q => exact .inr ⟨_, ⟨hq, .inr ⟨_, rfl, Nat.min_le_right _ _⟩⟩, rfl⟩

/-- A move that adds no event. It leads to SETTLE or RX only from one of these, and then it keeps the frame. -/
def State.KeepsHistory (s t : State) : Prop :=
  t.history = s.history ∧
    (t.phase = .settle ∨ t.phase = .rx → (s.phase = .settle ∨ s.phase = .rx) ∧ t.txbuf = s.txbuf)

/-- A move that ends the outstanding request with the event `e`. It leads to SETTLE or RX only when that was a write, answered OK,
with a read to come (R41). -/
def State.EndsRequest (s : State) (e : BusEvent) (t : State) : Prop :=
  s.CanEndWith e ∧ t.history = s.history ++ [e] ∧
    (t.phase = .settle ∨ t.phase = .rx →
      s.phase = .tx ∧ 0 < s.rxlen ∧ t.txbuf = s.txbuf ∧ ∃ c, e.ending = .answered (.okCount c))

theorem State.KeepsHistory.of_not_reading {s t : State} (hh : t.history = s.history) (hs : t.phase ≠ .settle)
    (hr : t.phase ≠ .rx) : s.KeepsHistory t := ⟨hh, fun h => (h.elim hs hr).elim⟩

theorem State.EndsRequest.of_idle {s t : State} {e : BusEvent} (he : s.CanEndWith e) (hh : t.history = s.history ++ [e])
    (hp : t.phase = .idle) : s.EndsRequest e t := ⟨he, hh, by simp [hp]⟩

/-- Every event enters the history as the end of the request that was outstanding (R58, R63). -/
theorem Moved.keepsHistory_or {s t : State} {x : Input} (h : Moved s x t) :
    s.KeepsHistory t ∨ ∃ e, s.EndsRequest e t := by
  cases h with
  | illegal | crcInit | crcFeed | sessionFailed | sessionClosed | alreadyOpen | startOpen | startReadReg | startSendCmd
  | startSendCmdArg | startReadMeas => exact .inl (.of_not_reading rfl nofun nofun)
  | openingOk hp | openingErr hp => exact .inr ⟨_, .of_idle (.answered (State.request_of_opening hp) rfl) rfl rfl⟩
  | txErr hp => exact .inr ⟨_, .of_idle (.answered (State.request_of_tx hp) rfl) rfl rfl⟩
  | txDone c hp hc _ =>
    exact .inr ⟨_, .of_idle (.answered (State.request_of_tx hp) (fits_okCount hc)) rfl rfl⟩
  | txToSettle c hp hc hr =>
    exact .inr ⟨_, .answered (State.request_of_tx hp) (fits_okCount hc), rfl, fun _ => ⟨hp, hr, rfl, c, rfl⟩⟩
  | rxErr hp => exact .inr ⟨_, .of_idle (.answered (State.request_of_rx hp) rfl) rfl rfl⟩
  | readRegRx _ hp hl _ | measAccepted _ hp hl _ _ | measRejected _ hp hl _ _ =>
    exact .inr ⟨_, .of_idle (.answered (State.request_of_rx hp) (fits_okBytes hl)) rfl rfl⟩
  | tickLeaves _ hp _ _ | settleElapsed hp => exact .inl ⟨rfl, fun _ => ⟨.inl hp, rfl⟩⟩
  | reset cut =>
    obtain hnone | ⟨e, he, hone⟩ := s.abandonedEvents_eq_or cut
    · exact .inl (.of_not_reading (by simp [hnone]) nofun nofun)
    · exact .inr ⟨e, .of_idle he (by simp [hone]) rfl⟩
  | read | writeArg | clearOvr | keepOvr | ignored | dropped | answerUnheard | settleElapsedUnheard | tickUnheard
  | tickCounts => exact .inl ⟨rfl, fun h => ⟨h, rfl⟩⟩

/-! ### What the control invariant says of the outstanding request -/

theorem goodFrame_frameF2 (w : Half) : goodFrame (frameF2 w) = true := rfl

/-- The checksum of an F5 frame is computed over the bytes that R126 checks it against. -/
theorem goodFrame_frameF5 (w a : Half) : goodFrame (frameF5 w a) = true := by simp [goodFrame, frameF5, parseFrame]

theorem goodFrame_busOpFrame {op : BusOp} (ho : op ≠ .openSession) (w a : Half) : goodFrame (op.frame w a) = true := by
  cases op with
  | openSession => exact absurd rfl ho
  | sendCmdArg => exact goodFrame_frameF5 w a
  | readReg | sendCmd | readMeas => exact goodFrame_frameF2 _

/-- An operation with a read phase writes a 2-byte frame, MEAS_READ_ADDR's before a read of more than 2 bytes (R62, R150). -/
theorem busOpFrame_of_reads {op : BusOp} (hr : 0 < op.readLen) (w a : Half) :
    (op.frame w a).length = 2 ∧ (op.readLen = 2 ∨ op.readLen = 18 ∧ op.frame w a = frameF2 Config.measReadAddr) := by
  cases op with
  | openSession | sendCmd | sendCmdArg => cases hr
  | readReg => exact ⟨rfl, .inl rfl⟩
  | readMeas => exact ⟨rfl, .inr ⟨rfl, rfl⟩⟩

/-- The same of the frame and the read length of the operation in flight. -/
theorem State.ControlInv.txbuf_of_reads {s : State} (hc : s.ControlInv)
    (hp : s.phase = .tx ∨ s.phase = .settle ∨ s.phase = .rx) (hr : 0 < s.rxlen) :
    s.txbuf.length = 2 ∧ (s.rxlen = 2 ∨ s.rxlen = 18 ∧ s.txbuf = frameF2 Config.measReadAddr) := by
  obtain ⟨-, -, ⟨-, hbus, -⟩, -, -⟩ := hc
  obtain ⟨-, -, hframe, hlen⟩ := hbus hp
  rw [hframe, hlen]
  exact busOpFrame_of_reads (hlen ▸ hr) _ _

theorem State.ControlInv.rxlen_pos_of_rx {s : State} (hc : s.ControlInv) (hp : s.phase = .rx) : 0 < s.rxlen := by
  obtain ⟨-, -, ⟨-, -, hread⟩, -, -⟩ := hc
  exact hread (.inr hp)

theorem State.ControlInv.goodFrame_of_tx {s : State} (hc : s.ControlInv) (hp : s.phase = .tx) : goodFrame s.txbuf = true := by
  obtain ⟨-, -, ⟨-, hbus, -⟩, -, -⟩ := hc
  obtain ⟨-, ho, hframe, -⟩ := hbus (.inl hp)
  rw [hframe]
  exact goodFrame_busOpFrame ho _ _

/-- A request the block may make: an F2 or F5 frame, or a read of 2 or 18 bytes (R62, R79). -/
def BusRequest.legal : BusRequest → Bool
  | .busOpen => true
  | .busWrite f => goodFrame f
  | .busRead n => n == 2 || n == 18

theorem BusEvent.legal_answered (q : BusRequest) (a : Answer) :
    BusEvent.legal ⟨q, .answered a⟩ = (q.legal && a.fits q) := rfl

theorem BusEvent.legal_abandoned (q : BusRequest) (k : Nat) :
    BusEvent.legal ⟨q, .abandoned k⟩ = (q.legal && decide (k ≤ q.size)) := rfl

theorem State.ControlInv.request_legal {s : State} (hc : s.ControlInv) {q : BusRequest} (hq : s.request = some q) :
    q.legal = true := by
  obtain ⟨-, rfl⟩ | ⟨hp, rfl⟩ | ⟨hp, rfl⟩ := State.request_eq_some hq
  · rfl
  · exact hc.goodFrame_of_tx hp
  · obtain ⟨-, hlen | ⟨hlen, -⟩⟩ := hc.txbuf_of_reads (.inr (.inr hp)) (hc.rxlen_pos_of_rx hp) <;>
      simp [BusRequest.legal, hlen]

/-! ### One event more -/

/-- However the outstanding request ends, its event is legal (R58, R79). -/
theorem State.ControlInv.event_legal {s : State} (hc : s.ControlInv) {e : BusEvent} (he : s.CanEndWith e) :
    e.legal = true := by
  obtain ⟨q, ending⟩ := e
  obtain ⟨hq, ⟨a, rfl, ha⟩ | ⟨k, rfl, hk⟩⟩ := he
  · rw [BusEvent.legal_answered, hc.request_legal hq, ha, Bool.and_self]
  · rw [BusEvent.legal_abandoned, hc.request_legal hq, decide_eq_true hk, Bool.and_self]

/-- The outstanding request may follow the last event: a read is outstanding in RX only, where that event is its write. -/
theorem State.HistoryInv.request_mayFollow {s : State} (hh : s.HistoryInv) (hc : s.ControlInv) {q : BusRequest}
    (hq : s.request = some q) : q.mayFollow (lastWrittenFrame s.history) = true := by
  obtain ⟨-, -, hlast⟩ := hh
  obtain ⟨-, rfl⟩ | ⟨-, rfl⟩ | ⟨hp, rfl⟩ := State.request_eq_some hq
  · rfl
  · rfl
  · rw [hlast (.inr hp)]
    obtain ⟨-, hlen | ⟨-, hframe⟩⟩ := hc.txbuf_of_reads (.inr (.inr hp)) (hc.rxlen_pos_of_rx hp)
    · simp [BusRequest.mayFollow, hlen]
    · simp [BusRequest.mayFollow, hframe]

/-- A whole history that grows by one event: only the last event before it matters. -/
theorem readsFollowWrites_none_append (h : List BusEvent) (e : BusEvent) :
    readsFollowWrites none (h ++ [e]) = (readsFollowWrites none h && e.request.mayFollow (lastWrittenFrame h)) := by
  rw [readsFollowWrites_append]
  cases h <;> rfl

/-- A 2-byte write answered OK is an event that a read may follow. -/
theorem writtenFrame_of_okCount {f : List Byte} (hf : f.length = 2) (c : Nat) :
    BusEvent.writtenFrame ⟨.busWrite f, .answered (.okCount c)⟩ = some f := if_pos hf

/-! ### Every move, every step -/

theorem State.HistoryInv.of_keepsHistory {s t : State} (hh : s.HistoryInv) (h : s.KeepsHistory t) : t.HistoryInv := by
  obtain ⟨hlegal, hreads, hlast⟩ := hh
  obtain ⟨heq, hphase⟩ := h
  refine ⟨heq ▸ hlegal, heq ▸ hreads, fun hp => ?_⟩
  obtain ⟨hs, hframe⟩ := hphase hp
  rw [heq, hframe]
  exact hlast hs

theorem State.HistoryInv.of_endsRequest {s t : State} {e : BusEvent} (hh : s.HistoryInv) (hc : s.ControlInv)
    (h : s.EndsRequest e t) : t.HistoryInv := by
  obtain ⟨he, heq, hphase⟩ := h
  have hq : s.request = some e.request := he.left
  have legal : e.legal = true := hc.event_legal he
  have follows : e.request.mayFollow (lastWrittenFrame s.history) = true := hh.request_mayFollow hc hq
  obtain ⟨hlegal, hreads, -⟩ := hh
  refine ⟨by simp [heq, hlegal, legal], by simp [heq, readsFollowWrites_none_append, hreads, follows], fun hp => ?_⟩
  obtain ⟨htx, hread, hframe, c, hok⟩ := hphase hp
  obtain ⟨hlen, -⟩ := hc.txbuf_of_reads (.inl htx) hread
  obtain ⟨q, ending⟩ := e
  cases (State.request_of_tx htx).symm.trans hq
  cases hok
  rw [heq, lastWrittenFrame_append, hframe, writtenFrame_of_okCount hlen]

theorem State.HistoryInv.withInputs {s : State} (h : s.HistoryInv) (xs : List Input) : (s.withInputs xs).HistoryInv := h

/-- Settles O38: a step leaves the history alone, or ends the outstanding request, which the control invariant and the last event
hold to be legal there. -/
theorem historyKeepsReadsAfterWrites : Obligations.HistoryKeepsReadsAfterWrites := by
  intro s t hc hh h
  obtain ⟨-, rfl⟩ | ⟨x, rest, -, h⟩ := step_moved h
  · exact hh
  · obtain keeps | ⟨e, ends⟩ := h.keepsHistory_or
    · exact (hh.withInputs rest).of_keepsHistory keeps
    · exact (hh.withInputs rest).of_endsRequest (hc.withInputs rest) ends

end Sys2Proof.Machine
end

section
/-! Proofs about waiting for the transport and about host reads (20_memory.md R51, R60, R67). -/

namespace Sys2Proof.Machine

/-! ### Waiting -/

/-- In OPENING, TX and RX the moves of the host and the timebase keep the phase and the outstanding request, and they add
nothing to the history (R67). -/
theorem Moved.waits {s t : State} {x : Input} (h : Moved s x t) (hp : s.phase = .opening ∨ s.phase = .tx ∨ s.phase = .rx)
    (hx : x.isTransport = false) (hr : x.isReset = false) :
    t.phase = s.phase ∧ t.request = s.request ∧ t.history = s.history := by
  have not_idle : s.phase ≠ .idle := by intro e; simp [e] at hp
  have not_settle : s.phase ≠ .settle := by intro e; simp [e] at hp
  cases h with
  | read | writeArg | clearOvr | keepOvr | ignored | dropped | settleElapsedUnheard | tickUnheard => exact ⟨rfl, rfl, rfl⟩
  | illegal _ hi | crcInit _ hi | crcFeed _ _ hi | sessionFailed _ _ hi | sessionClosed _ _ hi | alreadyOpen _ hi
  | startOpen _ hi | startReadReg _ _ hi | startSendCmd _ _ hi | startSendCmdArg _ _ hi | startReadMeas _ hi =>
    exact absurd hi not_idle
  | tickCounts _ hs | tickLeaves _ hs | settleElapsed hs => exact absurd hs not_settle
  | reset => cases hr
  | _ => cases hx

/-- Settles O27: no move of the host or the timebase ends the wait, and without an input there is no move. -/
theorem waitsForTheTransportWithoutTimeout : Obligations.WaitsForTheTransportWithoutTimeout := by
  refine ⟨fun s hi => step_of_no_inputs hi, fun s t x rest hp hi hx hr h => ?_⟩
  rw [step_of_inputs hi] at h
  obtain ⟨hphase, hrequest, hhistory⟩ := (inputStep_moved h).waits hp hx hr
  have busy : t.busy = true := by
    rw [State.busy_eq_true, hphase]
    obtain hp | hp | hp := hp <;> simp [hp]
  exact ⟨hphase, hrequest, busy, hhistory⟩

/-! ### Host reads -/

/-- Settles O45: a read's step is `State.hostRead`, which writes the record alone, and each of these registers is its field. -/
theorem hostReadHasNoSideEffect : Obligations.HostReadHasNoSideEffect := by
  refine ⟨fun s r rest hi => ?_, fun s => ⟨rfl, rfl, rfl, rfl, rfl, rfl, rfl, rfl, rfl, rfl⟩⟩
  rw [step_of_inputs hi]
  rfl

/-- TXCOUNT is the 16-bit value of its two bytes, LEN first (R27). -/
theorem State.hostValue_txcount (s : State) : s.hostValue .txcount = (halfOf s.txLen s.txCount).setWidth 32 := by
  apply BitVec.eq_of_getLsbD_eq
  intro i hi
  by_cases h : i < 16
  · simp [State.hostValue, halfOf, hi, h]
  · simp [State.hostValue, halfOf, hi, h, BitVec.getLsbD_of_ge s.txLen (i - 8) (by omega)]

/-- Settles O48: zero extension keeps the number, and TXCOUNT is the zero extension of its two bytes. -/
theorem narrowRegistersAreZeroExtended : Obligations.NarrowRegistersAreZeroExtended := by
  intro s
  have zero_extended : ∀ {n : Nat} (v : BitVec n), n ≤ 32 → (v.setWidth 32).toNat = v.toNat :=
    fun _ hn => BitVec.toNat_setWidth_of_le hn
  refine ⟨zero_extended s.arg (by decide), zero_extended s.rdata (by decide), zero_extended s.crc (by decide), ?_⟩
  rw [State.hostValue_txcount, zero_extended _ (by decide), toNat_halfOf]

end Sys2Proof.Machine
end

section
/-! Proofs about the opcode table and the decoder: no two rows overlap, decoding and encoding are inverse, and a word is rejected
exactly for the reasons R72 and R74 name (30_encoding.md R70 to R74, R80). -/

namespace Sys2Proof.Machine

/-! ### The rows of the table -/

/-- Every row's mask has all four bits of OP, so a word that selects the row has the row's OP. -/
theorem fieldOp_of_selects {r : OpRow} {v : Word} (hr : r ∈ opRows) (hs : r.selects v = true) :
    fieldOp v = fieldOp r.pattern := by
  have mask_op : ∀ r ∈ opRows, fieldOp r.mask = BitVec.allOnes 4 := by decide
  have h := congrArg fieldOp (beq_iff_eq.mp hs)
  rwa [fieldOp_and, mask_op r hr, BitVec.and_allOnes] at h

/-- Settles O4: the rows have different OPs, and a word has one OP. -/
theorem opcodeRowsDoNotOverlap : Obligations.OpcodeRowsDoNotOverlap := by
  have different_ops : opRows.Pairwise fun r q => fieldOp r.pattern ≠ fieldOp q.pattern := by decide
  refine different_ops.imp_of_mem fun hr hq hne v ⟨hrs, hqs⟩ => hne ?_
  rw [← fieldOp_of_selects hr hrs, fieldOp_of_selects hq hqs]

/-- Where no word selects two rows, the order of the rows does not matter. -/
theorem decodeRows_of_selects {rows : List OpRow} {r : OpRow} {v : Word}
    (hrows : rows.Pairwise fun r q => ∀ v : Word, ¬ (r.selects v = true ∧ q.selects v = true))
    (hr : r ∈ rows) (hs : r.selects v = true) : decodeRows rows v = some (r.build v) := by
  induction rows with
  | nil => cases hr
  | cons q rows ih =>
    obtain ⟨hq, hrows⟩ := List.pairwise_cons.mp hrows
    obtain rfl | hr := List.mem_cons.mp hr
    · exact if_pos hs
    · exact (if_neg fun hqs => hq r hr v ⟨hqs, hs⟩).trans (ih hrows hr)

theorem decodeWord_of_selects {r : OpRow} {v : Word} (hr : r ∈ opRows) (hs : r.selects v = true) :
    decodeWord v = some (r.build v) :=
  decodeRows_of_selects opcodeRowsDoNotOverlap hr hs

/-! ### Decoding and encoding are inverse -/

/-- The table has a row for every operation: its word selects the row, and the row builds it again from the word. -/
theorem exists_row_of_encode (i : Instr) :
    ∃ r ∈ opRows, r.selects (encode i) = true ∧ r.build (encode i) = i := by
  have half : ∀ (w : Half) {p : Word} {op : BitVec 4}, fieldW p = 0#16 → fieldB p = 0#8 → fieldZ p = 0#4 →
      fieldOp p = op → (opwordOf w 0#8 op &&& 0x0000FFFF#32 == p) = true := by
    rintro w p op hw hb hz rfl
    simp [and_half_iff _ p hw hb hz]
  cases i with
  | crcInit => exact ⟨opRows[0], List.getElem_mem _, by decide, rfl⟩
  | crcFeed b =>
    obtain ⟨ho, hz, -, hw⟩ := Laws.EncodeFields.crcFeed b
    exact ⟨opRows[1], List.getElem_mem _, beq_iff_eq.mpr ((and_feed_iff _).mpr ⟨hw, hz, ho⟩),
      congrArg Instr.crcFeed (fieldB_opwordOf _ _ _)⟩
  | openSession => exact ⟨opRows[2], List.getElem_mem _, by decide, rfl⟩
  | readReg w =>
    refine ⟨opRows[3], List.getElem_mem _, half w ?_ ?_ ?_ ?_, congrArg Instr.readReg (fieldW_opwordOf _ _ _)⟩ <;> decide
  | sendCmd w =>
    refine ⟨opRows[4], List.getElem_mem _, half w ?_ ?_ ?_ ?_, congrArg Instr.sendCmd (fieldW_opwordOf _ _ _)⟩ <;> decide
  | sendCmdArg w =>
    refine ⟨opRows[5], List.getElem_mem _, half w ?_ ?_ ?_ ?_, congrArg Instr.sendCmdArg (fieldW_opwordOf _ _ _)⟩ <;>
      decide
  | readMeas => exact ⟨opRows[6], List.getElem_mem _, by decide, rfl⟩

@[simp] theorem decodeWord_encode (i : Instr) : decodeWord (encode i) = some i := by
  obtain ⟨r, hr, hs, hb⟩ := exists_row_of_encode i
  rw [decodeWord_of_selects hr hs, hb]

/-- Settles O1: an operation's word selects the operation's row, and no other. -/
theorem decodeOfEncodeIsTheOperation : Obligations.DecodeOfEncodeIsTheOperation :=
  fun i _ => decodeWord_encode i

/-- Settles O2: each row's mask and match leave no bit outside the fields that its operation uses. -/
theorem encodeOfDecodeIsTheWord : Obligations.EncodeOfDecodeIsTheWord :=
  fun _ _ h => encode_of_decodeWord h

/-! ### The words that are rejected -/

/-- R72's conditions on a word, with the list of R74: its OP is unassigned, or a field its operation does not use is nonzero. -/
def BreaksFieldRules (v : Word) : Prop :=
  fieldOp v = 0#4 ∨ 8 ≤ (fieldOp v).toNat ∨ fieldZ v ≠ 0#4 ∨ (fieldOp v ≠ 2#4 ∧ fieldB v ≠ 0#8) ∨
    (fieldOp v ∈ [1#4, 2#4, 3#4, 7#4] ∧ fieldW v ≠ 0#16)

/-- The operations' own words keep the field rules. -/
theorem not_breaksFieldRules_encode (i : Instr) : ¬ BreaksFieldRules (encode i) := by
  cases i <;> simp [BreaksFieldRules, encode]

/-- A word that keeps the field rules is put together from its fields W, B and OP, and these are an operation's. -/
theorem exists_encode_of_not_breaksFieldRules {v : Word} (h : ¬ BreaksFieldRules v) : ∃ i, encode i = v := by
  have assigned : ∀ op : BitVec 4, op ≠ 0#4 → op.toNat < 8 →
      op = 1#4 ∨ op = 2#4 ∨ op = 3#4 ∨ op = 4#4 ∨ op = 5#4 ∨ op = 6#4 ∨ op = 7#4 := by decide
  simp only [BreaksFieldRules, not_or, not_le, not_and, not_not] at h
  obtain ⟨h0, h8, hz, hb, hw⟩ := h
  rw [← opwordOf_fields hz]
  obtain ho | ho | ho | ho | ho | ho | ho := assigned _ h0 h8 <;> rw [ho] at hb hw ⊢
  · exact ⟨.crcInit, by rw [hb (by decide), hw (by decide), encode]⟩
  · exact ⟨.crcFeed (fieldB v), by rw [hw (by decide), encode]⟩
  · exact ⟨.openSession, by rw [hb (by decide), hw (by decide), encode]⟩
  · exact ⟨.readReg (fieldW v), by rw [hb (by decide), encode]⟩
  · exact ⟨.sendCmd (fieldW v), by rw [hb (by decide), encode]⟩
  · exact ⟨.sendCmdArg (fieldW v), by rw [hb (by decide), encode]⟩
  · exact ⟨.readMeas, by rw [hb (by decide), hw (by decide), encode]⟩

theorem decodeWord_eq_none_iff (v : Word) : decodeWord v = none ↔ BreaksFieldRules v := by
  constructor
  · intro hd
    by_contra hv
    obtain ⟨i, rfl⟩ := exists_encode_of_not_breaksFieldRules hv
    simp at hd
  · intro hv
    by_contra hd
    obtain ⟨i, hd⟩ := Option.ne_none_iff_exists'.mp hd
    rw [← encode_of_decodeWord hd] at hv
    exact not_breaksFieldRules_encode i hv

/-- Settles O3: the words that decode are the operations' words, and these are the words that keep the field rules. -/
theorem unusedFieldsMustBeZero : Obligations.UnusedFieldsMustBeZero := decodeWord_eq_none_iff

/-- Settles O5: each of the seven is its operation's own word, and the last has an unassigned OP. -/
theorem sampleWordsDecode : Obligations.SampleWordsDecode :=
  ⟨decodeWord_encode .crcInit, decodeWord_encode (.crcFeed 0xE8#8), decodeWord_encode .openSession,
    decodeWord_encode (.readReg 0x0202#16), decodeWord_encode (.sendCmd 0xD304#16),
    decodeWord_encode (.sendCmdArg 0x5204#16), decodeWord_encode .readMeas, (decodeWord_eq_none_iff _).mpr (.inl rfl)⟩

/-! ### A step on a written word -/

theorem launchWord_of_decodeWord {v : Word} {i : Instr} (h : decodeWord v = some i) (s : State) :
    launchWord v s = exec i s := by
  rw [launchWord, h]

/-- The decoder's table view and the word the host writes agree: a word the view takes has no bit to cut off. -/
theorem decodeWord_wordOfBits {n w : Nat} {i : Instr} (h : decodeTableWord n w = some i) :
    decodeWord (wordOfBits n w) = some i := by
  unfold decodeTableWord at h
  split at h
  next hw => rwa [wordOfBits, Nat.mod_eq_of_lt hw.2]
  next => cases h

/-- Settles O6: the step takes the host's write, and the launch of a legal word is its operation's `exec`. -/
theorem stepRunsTheDecodedOperation : Obligations.StepRunsTheDecodedOperation := by
  refine fun s i => ⟨fun v rest hi hd => ?_, fun w hd => ?_⟩
  · rw [step_of_inputs hi]
    exact launchWord_of_decodeWord hd _
  · rw [step_of_inputs (s := s.withFetchWord 32 w) rfl]
    exact launchWord_of_decodeWord (decodeWord_wordOfBits hd) s

end Sys2Proof.Machine
end

section
/-! Proofs about the checksum: the round map and its printed table, the two operations on the host accumulator, and that no other
operation depends on it (40_checksum.md R100 to R106, R109). -/

namespace Sys2Proof.Machine

/-! ### The round map -/

/-- From accumulator 0 a step is the round map T itself (R103). -/
@[simp] theorem crc8Step_zero (x : Byte) : crc8Step 0#8 x = crc8Rounds 8 x := by
  rw [crc8Step_eq, BitVec.zero_xor]

/-- The printed table lists the round map in the order of the bytes. -/
theorem crcTable_eq_map : crcTable = (List.range 256).map fun n => crc8Rounds 8 (BitVec.ofNat 8 n) := by
  decide +kernel

theorem crcTable_getD (x : Byte) : crcTable.getD x.toNat 0#8 = crc8Rounds 8 x := by
  rw [crcTable_eq_map, List.getD_eq_getElem _ _ (by simpa using x.isLt)]
  simp

/-- Settles O11: a step sees only the exclusive or of accumulator and byte, and the table is the round map of it. -/
theorem crcStepIsTableLookup : Obligations.CrcStepIsTableLookup := by
  intro acc b
  rw [crc8Step_zero, crcTable_getD, crc8Step_eq]
  exact ⟨rfl, rfl⟩

/-- Only 0 goes to 0 in one round: a set high bit leaves the polynomial's bit 0, and without it the shift loses nothing. -/
theorem eq_zero_of_crc8Round {a : Byte} (h : crc8Round a = 0#8) : a = 0#8 := by
  unfold crc8Round at h
  split at h
  · have bit0 := congrArg (fun v => v.getLsbD 0) h
    simp [Config.crcPoly] at bit0
  next hm =>
    have high_clear := BitVec.msb_eq_false_iff_two_mul_lt.mp (Bool.eq_false_of_not_eq_true hm)
    bv_omega

theorem crc8Round_injective : Function.Injective crc8Round := by
  intro x y h
  refine BitVec.xor_eq_zero_iff.mp (eq_zero_of_crc8Round ?_)
  rw [crc8Round_xor, h, BitVec.xor_self]

theorem crc8Rounds_injective (n : Nat) : Function.Injective (crc8Rounds n) := by
  induction n with
  | zero => exact fun _ _ h => h
  | succ n ih => exact ih.comp crc8Round_injective

/-- Settles O12: each round is linear and injective, so eight are, and an injective map of a finite type is onto. -/
theorem roundMapIsLinearBijection : Obligations.RoundMapIsLinearBijection := by
  simp only [Obligations.RoundMapIsLinearBijection, crc8Step_zero]
  exact ⟨crc8Rounds_xor 8, fun _ _ h => crc8Rounds_injective 8 h,
    Finite.surjective_of_injective (crc8Rounds_injective 8)⟩

/-- Settles O13: the fold of two bytes is the step of the second after the step of the first. -/
theorem checksumWorkedValues : Obligations.ChecksumWorkedValues := by
  have first : crc8Step 0xFF#8 0xBE#8 = 0x0C#8 := by decide
  refine ⟨rfl, first, ?_⟩
  rw [crc8_two, first]
  decide

theorem crc8Step_self (a : Byte) : crc8Step a a = 0#8 := by
  rw [crc8Step_eq, BitVec.xor_self]
  decide

/-! ### CRC_INIT and CRC_FEED -/

/-- The state after an accepted launch of the word `w` that leaves `c` in CRC and completes at once: what CRC_INIT and CRC_FEED do
(R104, R105). -/
def State.checksumDone (w : Word) (c : Byte) (s : State) : State := ({ s with crc := c }.acceptLaunch w).complete .none

theorem exec_crcInit_of_idle {s : State} (h : s.phase = .idle) :
    exec .crcInit s = .next (s.checksumDone (encode .crcInit) 0xFF#8) := exec_of_idle h _

theorem exec_crcFeed_of_idle {s : State} (h : s.phase = .idle) (b : Byte) :
    exec (.crcFeed b) s = .next (s.checksumDone (encode (.crcFeed b)) (crc8Step s.crc b)) := exec_of_idle h _

/-- The same as one update of the idle state. -/
theorem State.checksumDone_of_idle {s : State} (h : s.phase = .idle) (w : Word) (c : Byte) :
    s.checksumDone w c = { s with
      opword := w, crc := c, done := true, err := .none, ioPhase := false, tripFail := 0, settleTimer := none } :=
  complete_acceptLaunch (s := { s with crc := c }) h w .none

/-- The launch of an illegal word from idle (R74, R215). -/
theorem launchWord_of_illegal {s : State} {v : Word} (h : s.phase = .idle) (hd : decodeWord v = none) :
    launchWord v s = .next ((s.acceptLaunch v).complete .illegalOp) := by
  unfold launchWord
  rw [hd]
  exact launch_of_idle h v _

theorem illegal_launch_keeps_crc {s : State} {v : Word} (h : s.phase = .idle) (hd : decodeWord v = none) :
    ∃ t, hostWrite .opword v s = .next t ∧ t.err = .illegalOp ∧ t.done = true ∧ t.phase = .idle ∧ t.crc = s.crc :=
  ⟨_, launchWord_of_illegal h hd, rfl, rfl, rfl, rfl⟩

/-- A test of the low four bits of a word is a test of its OP. -/
theorem fieldOp_of_and_eq {v p : Word} (h : v &&& 0x0000000F#32 = p) : fieldOp v = fieldOp p := by
  rw [← h, fieldOp_and, show fieldOp 0x0000000F#32 = BitVec.allOnes 4 by decide, BitVec.and_allOnes]

/-- A word with CRC_INIT's OP is CRC_INIT's word or is illegal. -/
theorem decodeWord_eq_none_of_crcInit_op {v : Word} (ho : fieldOp v = 1#4) (hv : v ≠ 0x00000001#32) :
    decodeWord v = none := by
  by_contra hd
  obtain ⟨i, hd⟩ := Option.ne_none_iff_exists'.mp hd
  obtain rfl := encode_of_decodeWord hd
  cases i with
  | crcInit => exact hv (by decide)
  | _ => simp [encode] at ho

/-- A word with CRC_FEED's OP is CRC_FEED's word of some byte or is illegal. -/
theorem decodeWord_eq_none_of_crcFeed_op {v : Word} (ho : fieldOp v = 2#4) (hv : v &&& 0xFFFF00F0#32 ≠ 0#32) :
    decodeWord v = none := by
  by_contra hd
  obtain ⟨i, hd⟩ := Option.ne_none_iff_exists'.mp hd
  obtain rfl := encode_of_decodeWord hd
  cases i with
  | crcFeed b =>
    have mask_b : fieldB 0xFFFF00F0#32 = 0#8 := by decide
    have mask_op : fieldOp 0xFFFF00F0#32 = 0#4 := by decide
    refine hv ((and_eq_iff_fields _ _ _).mpr ?_)
    simp only [mask_b, mask_op, encode, fieldW_opwordOf, fieldB_opwordOf, fieldZ_opwordOf, BitVec.zero_and, BitVec.and_zero]
    decide
  | _ => simp [encode] at ho

/-- Settles O15, by the launch from idle, the dropped launch and the words that are illegal. -/
theorem crcInitSetsTheAccumulator : Obligations.CrcInitSetsTheAccumulator := by
  refine ⟨fun s hp => ?_, fun s hp => exec_of_busy hp _, fun s v hp ho hv => ?_⟩
  · rw [exec_crcInit_of_idle hp, State.checksumDone_of_idle hp, show encode .crcInit = 0x00000001#32 by decide]
  · exact illegal_launch_keeps_crc hp (decodeWord_eq_none_of_crcInit_op (fieldOp_of_and_eq ho) hv)

theorem encode_crcFeed (b : Byte) : encode (.crcFeed b) = 0x00000002#32 ||| (b.setWidth 32 <<< 8) := by
  simp [encode, opwordOf, BitVec.or_comm]

/-- Settles O16, by the launch from idle, the dropped launch and the words that are illegal. -/
theorem crcFeedFoldsOneByte : Obligations.CrcFeedFoldsOneByte := by
  refine ⟨fun s b hp => ?_, fun s hp => ?_, fun s b hp => exec_of_busy hp _, fun s v hp ho hv => ?_⟩
  · rw [exec_crcFeed_of_idle hp, State.checksumDone_of_idle hp, encode_crcFeed]
  · exact ⟨_, exec_crcFeed_of_idle hp s.crc, crc8Step_self s.crc⟩
  · exact illegal_launch_keeps_crc hp (decodeWord_eq_none_of_crcFeed_op (fieldOp_of_and_eq ho) hv)

/-! ### A run of feeds -/

theorem step_of_launch {s : State} {i : Instr} {rest : List Input} (h : s.inputs = .host (launchAccess i) :: rest) :
    step s = exec i (s.withInputs rest) := by
  rw [step_of_inputs h]
  exact launchWord_of_decodeWord (decodeWord_encode i) _

/-- The host's launches of CRC_FEED for each byte. -/
def feedInputs (bytes : List Byte) : List Input := bytes.map fun b => .host (launchAccess (.crcFeed b))

/-- After a checksum operation, feeding bytes folds them into the accumulator; only the last word stays in OPWORD. -/
theorem run_feedInputs (bytes : List Byte) (s : State) (w : Word) (c : Byte) (rest : List Input) :
    ∃ w', core.run bytes.length ((s.withInputs (feedInputs bytes ++ rest)).checksumDone w c) =
      .next ((s.withInputs rest).checksumDone w' (bytes.foldl crc8Step c)) := by
  induction bytes generalizing w c with
  | nil => exact ⟨w, rfl⟩
  | cons b bs ih =>
    obtain ⟨w', run_bs⟩ := ih (encode (.crcFeed b)) (crc8Step c b)
    have feed_b : step ((s.withInputs (feedInputs (b :: bs) ++ rest)).checksumDone w c) =
        .next ((s.withInputs (feedInputs bs ++ rest)).checksumDone (encode (.crcFeed b)) (crc8Step c b)) :=
      (step_of_launch rfl).trans (exec_crcFeed_of_idle rfl b)
    exact ⟨w', (core_run_succ feed_b).trans run_bs⟩

/-- Settles O17: CRC_INIT starts the fold, and each CRC_FEED is one step of it; every other field is the idle state's. -/
theorem feedingBytesComputesTheChecksum : Obligations.FeedingBytesComputesTheChecksum := by
  intro s bytes rest hp hi
  have init : step s = .next ((s.withInputs (feedInputs bytes ++ rest)).checksumDone (encode .crcInit) 0xFF#8) :=
    (step_of_launch hi).trans (exec_crcInit_of_idle hp)
  obtain ⟨w, run_feeds⟩ := run_feedInputs bytes s (encode .crcInit) 0xFF#8 rest
  exact ⟨_, (core_run_succ init).trans run_feeds, rfl, rfl, rfl, rfl, rfl, rfl, rfl, .refl s⟩

/-! ### Independence from the accumulator -/

/-- A move of the transport or the timebase stays one with another value in CRC: no condition and no update of it reads CRC. -/
theorem Moved.with_crc {s t : State} {x : Input} (h : Moved s x t) (hx : x.isHost = false) (hr : x.isReset = false)
    (c : Byte) : Moved { s with crc := c } x { t with crc := c } := by
  cases h with
  | reset => cases hr
  | openingOk | openingErr | txErr | txToSettle | txDone | rxErr | readRegRx | measAccepted | measRejected | answerUnheard
  | settleElapsedUnheard | tickUnheard | tickCounts | tickLeaves | settleElapsed => constructor <;> assumption
  | _ => cases hx

theorem openDispatch_of_failed {s : State} (h : s.session = .failed) :
    openDispatch s = .next (s.complete .openError) := by
  simp [openDispatch, h]

theorem openDispatch_of_opened {s : State} (h : s.session = .opened) : openDispatch s = .next (s.complete .none) := by
  simp [openDispatch, h]

theorem openDispatch_of_closed {s : State} (h : s.session = .closed) :
    openDispatch s = .next (s.startOp .openSession .opening) := by
  simp [openDispatch, h]

/-- OPEN's dispatch answers OPEN_ERROR, success without traffic, or its start (R121). -/
theorem openDispatch_next {s t : State} (h : openDispatch s = .next t) :
    (s.session = .failed ∧ t = s.complete .openError) ∨ (s.session = .opened ∧ t = s.complete .none) ∨
      (s.session = .closed ∧ t = s.startOp .openSession .opening) := by
  unfold openDispatch at h
  split at h <;> cases h <;> simp [*]

theorem openDispatch_with_crc {s t : State} (h : openDispatch s = .next t) (c : Byte) :
    openDispatch { s with crc := c } = .next { t with crc := c } := by
  obtain ⟨hs, rfl⟩ | ⟨hs, rfl⟩ | ⟨hs, rfl⟩ := openDispatch_next h
  · exact openDispatch_of_failed (s := { s with crc := c }) hs
  · exact openDispatch_of_opened (s := { s with crc := c }) hs
  · exact openDispatch_of_closed (s := { s with crc := c }) hs

theorem busGate_with_crc {start : State → State} {s t : State} {c : Byte}
    (hstart : start { s with crc := c } = { start s with crc := c }) (h : busGate start s = .next t) :
    busGate start { s with crc := c } = .next { t with crc := c } := by
  obtain ⟨hs, rfl⟩ | ⟨hs, rfl⟩ | ⟨hs, rfl⟩ := busGate_next h
  · exact busGate_of_failed (s := { s with crc := c }) hs start
  · exact busGate_of_closed (s := { s with crc := c }) hs start
  · rw [busGate_of_opened (s := { s with crc := c }) hs, hstart]

/-- The dispatch of a bus operation does not read CRC (R106). -/
theorem dispatch_with_crc {i : Instr} {s t : State} (hi : i ≠ .crcInit) (hf : ∀ b, i ≠ .crcFeed b)
    (h : dispatch i s = .next t) (c : Byte) : dispatch i { s with crc := c } = .next { t with crc := c } := by
  cases i with
  | crcInit => exact absurd rfl hi
  | crcFeed b => exact absurd rfl (hf b)
  | openSession => exact openDispatch_with_crc h c
  | readReg | sendCmd | sendCmdArg | readMeas => exact busGate_with_crc rfl h

/-- Settles O40: the moves of the block, the dropped launch and the dispatch of a bus operation are the same whatever CRC holds. -/
theorem busOperationsIgnoreTheAccumulator : Obligations.BusOperationsIgnoreTheAccumulator := by
  refine fun s t c => ⟨fun x rest hi hr hx h => ?_, fun i hi hf h => ?_⟩
  · rw [step_of_inputs hi] at h
    exact step_of_moved hi ((inputStep_moved h).with_crc hx hr c) hx
  · by_cases hp : s.phase = .idle
    · rw [exec_of_idle hp] at h
      exact (exec_of_idle (s := { s with crc := c }) hp i).trans (dispatch_with_crc hi hf h c)
    · rw [exec_of_busy hp] at h
      cases h
      exact exec_of_busy (s := { s with crc := c }) hp i

end Sys2Proof.Machine
end

section
/-! Proofs about OPEN and about the common write phase: the launch in each session state, and the step for each answer of the
transport (10_state.md R38, R41; 41_frame_protocol.md R120, R121). -/

namespace Sys2Proof.Machine

theorem encode_openSession : encode .openSession = 0x00000003#32 := by decide

/-- Settles O21: the launches by OPEN's dispatch in each session state, the answers by the two moves out of OPENING. -/
theorem openOperation : Obligations.OpenOperation := by
  refine ⟨fun s hp hs => ?_, fun s hp hs => ?_, fun s hp hs => ?_,
    fun s rest hp hi => step_of_moved hi (.openingOk hp) rfl, fun s rest hp hi => step_of_moved hi (.openingErr hp) rfl⟩ <;>
    rw [exec_of_idle hp, dispatch, encode_openSession]
  · rw [openDispatch_of_failed (s := s.acceptLaunch _) hs, complete_acceptLaunch hp]
  · rw [openDispatch_of_opened (s := s.acceptLaunch _) hs, complete_acceptLaunch hp]
  · have latched : fieldW 0x00000003#32 = 0#16 := by decide
    rw [openDispatch_of_closed (s := s.acceptLaunch _) hs, State.startOp, State.acceptLaunch_opword, latched]
    rfl

/-- Settles O24: each answer is one of the three moves out of TX. -/
theorem writePhaseAnswered : Obligations.WritePhaseAnswered :=
  ⟨fun _ _ hp hi => step_of_moved hi (.txErr hp) rfl,
    fun _ c _ hp hi hc hr => step_of_moved hi (.txToSettle c hp hc hr) rfl,
    fun _ c _ hp hi hc hr => step_of_moved hi (.txDone c hp hc hr) rfl⟩

end Sys2Proof.Machine
end

section
/-! Proofs about the operations of the frame protocol from launch to completion: the state in which a launch leaves the block for
its write phase, the steps from there to the end, and what the frames parse as (41_frame_protocol.md R122 to R127). -/

namespace Sys2Proof.Machine

/-! ### The launch -/

/-- The state `s` once a launch of the word `v` has put `op` in flight with the latches `w` and `a`: its write is outstanding
(R37, R39). -/
def State.writing (v : Word) (op : BusOp) (w a : Half) (s : State) : State :=
  { s with
    opword := v, done := false, err := .none, ioPhase := false, tripFail := 0, curOp := op, latW := w, latA := a,
    txbuf := op.frame w a, rxlen := op.readLen, phase := .tx }

/-- The word of an operation whose one operand is W (R70). -/
theorem opwordOf_half (w : Half) (op : BitVec 4) :
    opwordOf w 0#8 op = op.setWidth 32 ||| (w.setWidth 32 <<< 16) := by
  simp [opwordOf, BitVec.or_comm]

/-- In an open session the launch of a bus operation starts its write phase (R38, R39). `n` is the operation's OP. -/
theorem exec_of_opened {i : Instr} {w : Half} {n : BitVec 4} {start : State → State} {op : BusOp} {s : State}
    (hword : encode i = opwordOf w 0#8 n) (hd : dispatch i = busGate start)
    (hstart : ∀ v, start (s.acceptLaunch v) = s.writing v op (fieldW v) s.arg) (hp : s.phase = .idle)
    (hs : s.session = .opened) : exec i s = .next (s.writing (n.setWidth 32 ||| (w.setWidth 32 <<< 16)) op w s.arg) := by
  rw [exec_of_idle hp, hd, busGate_of_opened (s := s.acceptLaunch _) hs, hstart, hword, fieldW_opwordOf, opwordOf_half]

section
variable (w : Half) {s : State} (hp : s.phase = .idle) (hs : s.session = .opened)
include hp hs

theorem exec_readReg_of_opened :
    exec (.readReg w) s = .next (s.writing (0x00000004#32 ||| (w.setWidth 32 <<< 16)) .readReg w s.arg) :=
  exec_of_opened (n := 4#4) rfl rfl (fun _ => rfl) hp hs

theorem exec_sendCmd_of_opened :
    exec (.sendCmd w) s = .next (s.writing (0x00000005#32 ||| (w.setWidth 32 <<< 16)) .sendCmd w s.arg) :=
  exec_of_opened (n := 5#4) rfl rfl (fun _ => rfl) hp hs

theorem exec_sendCmdArg_of_opened :
    exec (.sendCmdArg w) s = .next (s.writing (0x00000006#32 ||| (w.setWidth 32 <<< 16)) .sendCmdArg w s.arg) :=
  exec_of_opened (n := 6#4) rfl rfl (fun _ => rfl) hp hs

end

/-! ### The frames -/

theorem parseFrame_frameF2 (w : Half) : parseFrame (frameF2 w) = .cmd w :=
  congrArg ParsedFrame.cmd (halfOf_hiByte_loByte w)

theorem parseFrame_frameF5 (w a : Half) : parseFrame (frameF5 w a) = .cmdArg w a := by
  simp [parseFrame, frameF5]

/-- Settles O34: the launch leaves the write of its frame outstanding, and each frame parses as what it was built from. -/
theorem frameRoundTrip : Obligations.FrameRoundTrip := fun s w hp hs =>
  ⟨⟨_, _, exec_sendCmdArg_of_opened w hp hs, State.request_of_tx rfl, parseFrame_frameF5 w s.arg⟩,
    ⟨_, _, exec_sendCmd_of_opened w hp hs, State.request_of_tx rfl, parseFrame_frameF2 w⟩⟩

/-- Two bytes read big-endian, as a number (R59). -/
theorem halfOf_eq_ofNat (b0 b1 : Byte) : halfOf b0 b1 = BitVec.ofNat 16 (b0.toNat * 256 + b1.toNat) := by
  rw [← toNat_halfOf, BitVec.ofNat_toNat, BitVec.setWidth_eq]

/-! ### From the launch to the end -/

/-- A run that begins with a launch which starts a write phase goes on from there. -/
theorem core_run_of_launch {i : Instr} {v : Word} {op : BusOp} {w : Half} {s : State} {rest : List Input} {n : Nat}
    (h : ∀ {t : State}, t.phase = .idle → t.session = .opened → exec i t = .next (t.writing v op w t.arg))
    (hp : s.phase = .idle) (hs : s.session = .opened) (hi : s.inputs = .host (launchAccess i) :: rest) :
    core.run (n + 1) s = core.run n ((s.withInputs rest).writing v op w s.arg) :=
  core_run_succ ((step_of_launch hi).trans (h (t := s.withInputs rest) hp hs))

/-- The state of an operation in its read phase, its write answered OK(c) and the settle interval over (R41). -/
def State.reading (v : Word) (op : BusOp) (w a : Half) (c : Nat) (s : State) : State :=
  leaveSettle (enterSettle (txReport (.okCount c) c (s.writing v op w a)))

section
variable {s : State} {v : Word} {op : BusOp} {w a : Half} {c : Nat} {rest : List Input}

/-- A host write of ARG while the write is outstanding changes ARG alone: the operation reads its latched copy (R34, R254). -/
theorem core_run_writeArg {x : Word} {n : Nat} :
    core.run (n + 1) ((s.withInputs (.host (.write .arg x) :: rest)).writing v op w a) =
      core.run n (({ s with arg := lowHalf x }.withInputs rest).writing v op w a) := core_run_succ rfl

theorem core_run_write_failed :
    core.run 1 ((s.withInputs (.transport .err :: rest)).writing v op w a) =
      .next (txErr ((s.withInputs rest).writing v op w a)) :=
  core_run_succ (step_of_moved rfl (.txErr rfl) rfl)

/-- Without a read phase a write answered OK(c) completes the operation (R41). -/
theorem core_run_write_done (hr : op.readLen = 0) (hc : c ≤ (op.frame w a).length) :
    core.run 1 ((s.withInputs (.transport (.okCount c) :: rest)).writing v op w a) =
      .next ((txReport (.okCount c) c ((s.withInputs rest).writing v op w a)).complete .none) :=
  core_run_succ (step_of_moved rfl (.txDone c rfl hc hr) rfl)

/-- With a read phase, a write answered OK(c) and the settle-elapsed event lead to the read (R41, R250). -/
theorem core_run_to_reading {n : Nat} (hr : 0 < op.readLen) (hc : c ≤ (op.frame w a).length) :
    core.run (n + 2) ((s.withInputs (.transport (.okCount c) :: .settleElapsed :: rest)).writing v op w a) =
      core.run n ((s.withInputs rest).reading v op w a c) := by
  have settles : step ((s.withInputs (.transport (.okCount c) :: .settleElapsed :: rest)).writing v op w a) =
      .next (enterSettle (txReport (.okCount c) c ((s.withInputs (.settleElapsed :: rest)).writing v op w a))) :=
    step_of_moved rfl (.txToSettle c rfl hc hr) rfl
  rw [core_run_succ settles]
  exact core_run_succ (step_of_moved rfl (.settleElapsed rfl) rfl)

theorem core_run_read_failed :
    core.run 1 ((s.withInputs (.transport .err :: rest)).reading v op w a c) =
      .next (rxErr ((s.withInputs rest).reading v op w a c)) :=
  core_run_succ (step_of_moved rfl (.rxErr rfl) rfl)

theorem core_run_readReg_done {b0 b1 : Byte} :
    core.run 1 ((s.withInputs (.transport (.okBytes [b0, b1]) :: rest)).reading v .readReg w a c) =
      .next (readRegRx [b0, b1] ((s.withInputs rest).reading v .readReg w a c)) :=
  core_run_succ (step_of_moved rfl (.readRegRx [b0, b1] rfl rfl rfl) rfl)

end

/-- At its end an operation is back in IDLE, where it was launched; so the phase is the one field it wrote and did not change.
The history may be put together in another way than it grew. -/
theorem next_eq_of_idle {t u : State} (hu : u.phase = .idle) (hh : t.history = u.history)
    (h : t = { u with phase := .idle, history := t.history }) : (.next t : Result) = .next u := by
  rw [h, hh, ← hu]

/-! ### The operations -/

/-- Settles O30: the launch, and the one step that ends the write phase. -/
theorem sendCmdOperation : Obligations.SendCmdOperation := by
  intro s w hp hs
  refine ⟨exec_sendCmd_of_opened w hp hs, fun c rest hc hi => ?_, fun rest hi => ?_⟩ <;>
    rw [core_run_of_launch (exec_sendCmd_of_opened w) hp hs hi]
  · rw [core_run_write_done rfl hc]
    exact next_eq_of_idle hp rfl rfl
  · rw [core_run_write_failed]
    exact next_eq_of_idle hp rfl rfl

/-- Settles O31: as for SEND_CMD, with the write of ARG between the launch and the answer. -/
theorem sendCmdArgOperation : Obligations.SendCmdArgOperation := by
  rintro s w f hp hs rfl
  refine ⟨exec_sendCmdArg_of_opened w hp hs, fun c v rest hc hi => ?_, fun rest hi => ?_⟩ <;>
    rw [core_run_of_launch (exec_sendCmdArg_of_opened w) hp hs hi]
  · rw [core_run_writeArg, core_run_write_done rfl hc]
    exact next_eq_of_idle hp rfl rfl
  · rw [core_run_write_failed]
    exact next_eq_of_idle hp rfl rfl

/-- Settles O29: a failed write ends at once, and after a good one the read's answer ends the operation. -/
theorem readRegOperation : Obligations.ReadRegOperation := by
  intro s w hp hs
  refine ⟨exec_readReg_of_opened w hp hs, fun c b0 b1 rest hc hi => ?_, fun rest hi => ?_, fun c rest hc hi => ?_⟩ <;>
    rw [core_run_of_launch (exec_readReg_of_opened w) hp hs hi]
  · rw [core_run_to_reading (by decide) hc, core_run_readReg_done, ← halfOf_eq_ofNat]
    exact next_eq_of_idle hp (List.append_assoc _ _ _) rfl
  · rw [core_run_write_failed]
    exact next_eq_of_idle hp rfl rfl
  · rw [core_run_to_reading (by decide) hc, core_run_read_failed]
    exact next_eq_of_idle hp (List.append_assoc _ _ _) rfl

end Sys2Proof.Machine
end

section
/-! Proofs about the checks of a payload: which changes of two data bytes their checksum sees, and what the fail mask says of the
six windows (40_checksum.md R107; 42_payload_assembler.md R151, R154). -/

namespace Sys2Proof.Machine

/-! ### The checksum of two data bytes -/

/-- A step sees the exclusive or of accumulator and byte, and loses nothing of it (R103). -/
theorem crc8Step_eq_iff {acc acc' b b' : Byte} : crc8Step acc b = crc8Step acc' b' ↔ acc ^^^ b = acc' ^^^ b' :=
  (crc8Rounds_injective 8).eq_iff

/-- For two first bytes and a second one, exactly one second byte gives the same checksum. -/
theorem crc8_two_eq_iff {a b a' b' : Byte} :
    crc8 [a', b'] = crc8 [a, b] ↔ b' = crc8Step 0xFF#8 a' ^^^ (crc8Step 0xFF#8 a ^^^ b) := by
  rw [crc8_two, crc8_two, crc8Step_eq_iff]
  constructor <;> intro h
  · rw [← h, ← BitVec.xor_assoc, BitVec.xor_self, BitVec.zero_xor]
  · rw [h, ← BitVec.xor_assoc, BitVec.xor_self, BitVec.zero_xor]

theorem crc8_two_ne_of_first_ne {a a' : Byte} (h : a ≠ a') (b : Byte) : crc8 [a, b] ≠ crc8 [a', b] := by
  rw [crc8_two, crc8_two, ne_eq, crc8Step_eq_iff, BitVec.xor_left_inj, crc8Step_eq_iff, BitVec.xor_right_inj]
  exact h

theorem crc8_two_ne_of_second_ne {b b' : Byte} (h : b ≠ b') (a : Byte) : crc8 [a, b] ≠ crc8 [a, b'] := by
  rw [crc8_two, crc8_two, ne_eq, crc8Step_eq_iff, BitVec.xor_right_inj]
  exact h

/-- Settles O14: each step is injective in either argument. The second byte that hides a change of the first is not the old one,
or a one-byte change would be hidden. -/
theorem oneByteChangeIsSeenTwoCanHide : Obligations.OneByteChangeIsSeenTwoCanHide := by
  refine ⟨fun a a' b h => crc8_two_ne_of_first_ne h b, fun a b b' h => crc8_two_ne_of_second_ne h a, fun a a' b h => ?_⟩
  refine ⟨_, fun same => ?_, crc8_two_eq_iff.mpr rfl, fun _ => crc8_two_eq_iff.mp⟩
  exact crc8_two_ne_of_first_ne h.symm b (crc8_two_eq_iff.mpr same.symm)

/-! ### The fail mask -/

theorem windowOk_iff (p : List Byte) (k : Nat) :
    windowOk p k = true ↔ crc8 [byteAt p (3 * k), byteAt p (3 * k + 1)] = byteAt p (3 * k + 2) := beq_iff_eq

/-- The six bits of the mask do not overlap, so their disjunction is their sum. -/
theorem toNat_failMask (p : List Byte) :
    (failMask p).toNat = ((List.range 6).map fun k => if windowOk p k = true then 0 else 2 ^ k).sum := by
  rw [show List.range 6 = [0, 1, 2, 3, 4, 5] by decide]
  simp only [failMask, failBit, List.map]
  generalize windowOk p 0 = w0, windowOk p 1 = w1, windowOk p 2 = w2, windowOk p 3 = w3, windowOk p 4 = w4,
    windowOk p 5 = w5
  decide +revert

/-- Settles O18: a window passes when its data checksum is its third byte. -/
theorem failMaskSumsFailingWindows : Obligations.FailMaskSumsFailingWindows := by
  intro p
  rw [toNat_failMask]
  simp only [windowOk_iff, byteAt]

theorem windowOk_of_failMask_eq_zero {p : List Byte} (h : failMask p = 0) {k : Nat} (hk : k < 6) : windowOk p k = true := by
  have sum_zero : ((List.range 6).map fun k => if windowOk p k = true then 0 else 2 ^ k).sum = 0 := by
    rw [← toNat_failMask, h]
    rfl
  by_contra hw
  simpa [hw] using List.sum_eq_zero_iff.mp sum_zero _ (List.mem_map_of_mem (List.mem_range.mpr hk))

/-- When one window alone fails, the mask is its bit. -/
theorem toNat_failMask_of_one_failing {p : List Byte} {k : Nat} (hk : k < 6)
    (h : ∀ i < 6, windowOk p i = true ↔ i ≠ k) : (failMask p).toNat = 2 ^ k := by
  have once : (List.range 6).count k = 1 := List.count_eq_one_of_mem List.nodup_range (List.mem_range.mpr hk)
  have fails : ¬ windowOk p k = true := fun hw => (h k hk).mp hw rfl
  rw [toNat_failMask, List.sum_map_eq_nsmul_single k, once, one_smul, if_neg fails]
  intro i hne hi
  exact if_pos ((h i (List.mem_range.mp hi)).mpr hne)

end Sys2Proof.Machine
end

section
/-! Proofs about READ_MEAS: its runs from launch to completion, and what its read does with a payload that has one byte changed
(42_payload_assembler.md R150, R152, R154). -/

namespace Sys2Proof.Machine

/-! ### From the launch to the end -/

theorem exec_readMeas_of_opened {s : State} (hp : s.phase = .idle) (hs : s.session = .opened) :
    exec .readMeas s = .next (s.writing 0x00000007#32 .readMeas 0#16 s.arg) :=
  exec_of_opened (w := 0#16) (n := 7#4) rfl rfl (fun _ => rfl) hp hs

/-- The payload's 18 bytes end the operation, by what the checks say of them. -/
theorem core_run_readMeas_done {s : State} {v : Word} {w a : Half} {c : Nat} {p : List Byte} {rest : List Input}
    (hl : p.length = 18) :
    core.run 1 ((s.withInputs (.transport (.okBytes p) :: rest)).reading v .readMeas w a c) =
      .next (readMeasRx p ((s.withInputs rest).reading v .readMeas w a c)) := by
  by_cases hm : failMask p = 0
  · rw [readMeasRx_of_accepted hm]
    exact core_run_succ (step_of_moved rfl (.measAccepted p rfl hl rfl hm) rfl)
  · rw [readMeasRx_of_rejected hm]
    exact core_run_succ (step_of_moved rfl (.measRejected p rfl hl rfl hm) rfl)

/-- Settles O32: a failed write ends at once, and after a good one the read's answer and the checks end the operation. -/
theorem readMeasOperation : Obligations.ReadMeasOperation := by
  rintro s f hp hs rfl
  refine ⟨exec_readMeas_of_opened hp hs, fun c p rest hc hl hm hi => ?_, fun c p rest hc hl hm hi => ?_,
    fun rest hi => ?_, fun c rest hc hi => ?_⟩ <;>
    rw [core_run_of_launch exec_readMeas_of_opened hp hs hi]
  · rw [core_run_to_reading (by decide) hc, core_run_readMeas_done hl, readMeasRx_of_accepted hm]
    exact next_eq_of_idle hp (List.append_assoc _ _ _) rfl
  · rw [core_run_to_reading (by decide) hc, core_run_readMeas_done hl, readMeasRx_of_rejected hm]
    exact next_eq_of_idle hp (List.append_assoc _ _ _) rfl
  · rw [core_run_write_failed]
    exact next_eq_of_idle hp rfl rfl
  · rw [core_run_to_reading (by decide) hc, core_run_read_failed]
    exact next_eq_of_idle hp (List.append_assoc _ _ _) rfl

/-! ### A payload with one byte changed -/

theorem byteAt_set_self {p : List Byte} {j : Nat} (hj : j < p.length) (b : Byte) : byteAt (p.set j b) j = b := by
  simp [byteAt, hj]

theorem byteAt_set_of_ne (p : List Byte) {i j : Nat} (h : j ≠ i) (b : Byte) : byteAt (p.set j b) i = byteAt p i := by
  simp [byteAt, List.getElem?_set_ne h]

/-- The windows do not share a byte. -/
theorem windowOk_set_of_ne (p : List Byte) {i j : Nat} (h : i ≠ j / 3) (b : Byte) :
    windowOk (p.set j b) i = windowOk p i := by
  simp only [windowOk]
  rw [byteAt_set_of_ne p (by omega), byteAt_set_of_ne p (by omega), byteAt_set_of_ne p (by omega)]

/-- A window that passes fails once one of its three bytes is another: a data byte changes the checksum, and the checksum byte is
compared with it. -/
theorem windowOk_set_self {p : List Byte} {j : Nat} {b : Byte} (hj : j < p.length) (hb : b ≠ byteAt p j)
    (hw : windowOk p (j / 3) = true) : ¬ windowOk (p.set j b) (j / 3) = true := by
  rw [windowOk_iff] at hw ⊢
  obtain ⟨k, rfl | rfl | rfl⟩ : ∃ k, j = 3 * k ∨ j = 3 * k + 1 ∨ j = 3 * k + 2 := ⟨j / 3, by omega⟩
  · rw [show 3 * k / 3 = k by omega] at hw ⊢
    rw [byteAt_set_self hj, byteAt_set_of_ne p (by omega), byteAt_set_of_ne p (by omega), ← hw]
    exact crc8_two_ne_of_first_ne hb _
  · rw [show (3 * k + 1) / 3 = k by omega] at hw ⊢
    rw [byteAt_set_self hj, byteAt_set_of_ne p (by omega), byteAt_set_of_ne p (by omega), ← hw]
    exact crc8_two_ne_of_second_ne hb _
  · rw [show (3 * k + 2) / 3 = k by omega] at hw ⊢
    rw [byteAt_set_self hj, byteAt_set_of_ne p (by omega), byteAt_set_of_ne p (by omega), hw]
    exact hb.symm

/-- The mask of a valid payload with byte `j` changed names the triplet of that byte alone. -/
theorem toNat_failMask_set {p : List Byte} {j : Nat} {b : Byte} (hl : p.length = 18) (hm : failMask p = 0) (hj : j < 18)
    (hb : b ≠ byteAt p j) : (failMask (p.set j b)).toNat = 2 ^ (j / 3) := by
  have changed := windowOk_set_self (hl ▸ hj) hb (windowOk_of_failMask_eq_zero hm (by omega))
  refine toNat_failMask_of_one_failing (by omega) fun i hi => ⟨?_, fun hne => ?_⟩
  · rintro hw rfl
    exact changed hw
  · rw [windowOk_set_of_ne p hne]
    exact windowOk_of_failMask_eq_zero hm hi

/-- Settles O33: the mask is not 0, so the read ends with the rejecting move. -/
theorem singleByteCorruptionIsRejected : Obligations.SingleByteCorruptionIsRejected := by
  intro s p j b rest hp ho hr hl hm hj hb hi
  have mask := toNat_failMask_set hl hm hj hb
  have rejected : failMask (p.set j b) ≠ 0 := fun h => by
    rw [h] at mask
    exact (Nat.two_pow_pos (j / 3)).ne mask
  have length_ok : (p.set j b).length = s.rxlen := by rw [List.length_set, hl, hr]
  exact ⟨_, step_of_moved hi (.measRejected _ hp length_ok ho rejected) rfl, rfl, mask, rfl, rfl, .refl s⟩

end Sys2Proof.Machine
end

section
/-! Proofs that every step keeps the stored measurement validated: the registers give back every byte that the checks and the
channel patterns look at (42_payload_assembler.md R152; 43_float_decoder.md R174, R175). -/

namespace Sys2Proof.Machine

/-! ### What a load stores -/

/-- The 18 bytes the registers hold after a load: a payload of another length is cut, or filled up with 0. -/
def firstBytes (p : List Byte) : List Byte := (List.range 18).map (byteAt p)

theorem payloadBytes_loadMeasurement_eq (p : List Byte) (s : State) :
    (loadMeasurement p s).payloadBytes = firstBytes p := by
  simp only [State.payloadBytes, loadMeasurement, packWord, packLast, wordBytes_wordOf, hiByte_halfOf, loByte_halfOf]
  rfl

/-- The six windows lie in the first 18 bytes (R151). -/
theorem failMask_firstBytes (p : List Byte) : failMask (firstBytes p) = failMask p := rfl

/-- So do the three channels (R171). -/
theorem pattern_firstBytes (p : List Byte) :
    pattern (firstBytes p) 0 = pattern p 0 ∧ pattern (firstBytes p) 1 = pattern p 1 ∧
      pattern (firstBytes p) 2 = pattern p 2 := ⟨rfl, rfl, rfl⟩

/-! ### Every move, every step -/

theorem State.MeasInv.withInputs {s : State} (h : s.MeasInv) (xs : List Input) : (s.withInputs xs).MeasInv := h

/-- An accepted payload is stored with its patterns, and it is the accepted one that the registers give back. -/
theorem State.MeasInv.loadMeasurement {s : State} (h : s.MeasInv) {p : List Byte} (hm : failMask p = 0) :
    (loadMeasurement p s).MeasInv := by
  obtain ⟨-, -, hrdata⟩ := h
  obtain ⟨hco2, htemp, hrh⟩ := pattern_firstBytes p
  refine ⟨fun _ => ?_, nofun, hrdata⟩
  rw [payloadBytes_loadMeasurement_eq]
  exact ⟨(failMask_firstBytes p).trans hm, hco2.symm, htemp.symm, hrh.symm⟩

/-- A successful READ_REG writes no register of the measurement, and its RDATA is valid. -/
theorem State.MeasInv.readRegRx {s : State} (h : s.MeasInv) (bs : List Byte) : (readRegRx bs s).MeasInv := by
  obtain ⟨hvalid, hinvalid, -⟩ := h
  exact ⟨hvalid, hinvalid, nofun⟩

/-- After a reset every one of these registers is 0 (R240). -/
theorem reset_measInv : State.reset.MeasInv := by decide

/-- Every move but the two successful reads and the reset leaves the result registers as they were. -/
theorem Moved.measInv {s t : State} {x : Input} (hs : s.MeasInv) (h : Moved s x t) : t.MeasInv := by
  cases h with
  | readRegRx bs _ _ _ => exact hs.readRegRx bs
  | measAccepted p _ _ _ hm => exact State.MeasInv.loadMeasurement (s := rxReport (.okBytes p) s) hs hm
  | reset cut => exact reset_measInv
  | _ => exact hs

/-- Settles O37: move by move. -/
theorem storedMeasurementIsValidated : Obligations.StoredMeasurementIsValidated := by
  intro s t hs h
  obtain ⟨-, rfl⟩ | ⟨x, rest, -, hmove⟩ := step_moved h
  · exact hs
  · exact hmove.measInv (hs.withInputs rest)

end Sys2Proof.Machine
end

section
/-! Proofs about the float decoder: data words and channel patterns as numbers, and which patterns denote a number
(43_float_decoder.md R170, R171, R173, R177). -/

namespace Sys2Proof.Machine

/-! ### Data words and channel patterns -/

theorem toNat_dataWord (p : List Byte) (k : Nat) :
    (dataWord p k).toNat = (p.getD (3 * k) 0#8).toNat * 256 + (p.getD (3 * k + 1) 0#8).toNat :=
  toNat_halfOf _ _

/-- The checksum byte between the two data words, byte 6c + 2, does not enter (R171). -/
theorem toNat_pattern (p : List Byte) (c : Nat) :
    (pattern p c).toNat = (p.getD (6 * c) 0#8).toNat * 2 ^ 24 + (p.getD (6 * c + 1) 0#8).toNat * 2 ^ 16 +
      (p.getD (6 * c + 3) 0#8).toNat * 2 ^ 8 + (p.getD (6 * c + 4) 0#8).toNat := by
  have first : 3 * (2 * c) = 6 * c := by omega
  have second : 3 * (2 * c + 1) = 6 * c + 3 := by omega
  rw [pattern, toNat_wordOf, toNat_dataWord, toNat_dataWord, first, second, show 6 * c + 3 + 1 = 6 * c + 4 from rfl]
  omega

/-- Settles O19: neither number depends on the bounds of the index. -/
theorem patternIsFourDataBytes : Obligations.PatternIsFourDataBytes :=
  fun p => ⟨fun k _ => toNat_dataWord p k, fun c _ => toNat_pattern p c⟩

/-! ### The value of a pattern -/

theorem floatExp_eq_iff (v : Word) : floatExp v = 255 ↔ v.extractLsb' 23 8 = 255#8 :=
  BitVec.toNat_inj (y := 255#8)

/-- The infinities and the NaNs, which have the exponent field 255, denote no rational; every other pattern does (R173). -/
theorem toRat_floatValue_eq_none_iff (v : Word) : (floatValue v).toRat = none ↔ floatExp v = 255 := by
  unfold floatValue
  split
  case isTrue h => split <;> simp [FloatValue.toRat, h]
  case isFalse h => split <;> simp [FloatValue.toRat, h]

/-- Settles O51: each chosen pattern decodes by evaluation to a sign, an integer and a power of 2, and the finite ones' rationals
are then computed. -/
theorem patternValues : Obligations.PatternValues := by
  have worked : floatValue 0x43964000#32 = .finite false 0x964000 (-15) := by decide
  have largest : floatValue 0x7F7FFFFF#32 = .finite false (2 ^ 24 - 1) 104 := by decide
  have smallest : floatValue 0x00000001#32 = .finite false 1 (-149) := by decide
  refine ⟨?_, ?_, ?_, by decide, by decide, by decide, by decide, by decide, fun v => ?_⟩
  · rw [worked]; norm_num [FloatValue.toRat]
  · rw [largest]; norm_num [FloatValue.toRat]
  · rw [smallest]; norm_num [FloatValue.toRat]
  · rw [toRat_floatValue_eq_none_iff, floatExp_eq_iff]

end Sys2Proof.Machine
end

section
/-! Proofs about the device operations: what a host sequence's launch, its WAIT and its look at the registers come to, and from
these the three setters and isDataReady (44_device_operations.md R190, R191, R194, R196, R198, R201). -/

namespace Sys2Proof.Machine

/-! ### WAIT -/

theorem waitIdle_of_not_busy {s : State} (h : s.busy = false) (n : Nat) : waitIdle n s = some s := by
  obtain ⟨bit, -⟩ := getLsbD_status_flags s
  cases n <;> simp only [waitIdle, bit, h, Bool.false_eq_true, if_false]

/-- While the block is busy WAIT follows one more step (R81). -/
theorem waitIdle_of_busy {n : Nat} {s t : State} (hb : s.busy = true) (h : step s = .next t) :
    waitIdle (n + 1) s = waitIdle n t := by
  obtain ⟨bit, -⟩ := getLsbD_status_flags s
  simp only [waitIdle, bit, hb, if_true, h]

/-- WAIT ends after the step that completes the operation. -/
theorem waitIdle_of_last_step {n : Nat} {s t : State} (hb : s.busy = true) (h : step s = .next t) (ht : t.busy = false) :
    waitIdle (n + 1) s = some t := by
  rw [waitIdle_of_busy hb h, waitIdle_of_not_busy ht]

section
variable {s : State} {v : Word} {op : BusOp} {w a : Half} {c n : Nat} {rest : List Input}

theorem waitIdle_write_failed (hi : s.inputs = .transport .err :: rest) :
    waitIdle (n + 1) (s.writing v op w a) = some (txErr ((s.withInputs rest).writing v op w a)) :=
  waitIdle_of_last_step rfl (step_of_moved hi (.txErr rfl) rfl) rfl

/-- Without a read phase WAIT ends with the write (R41). -/
theorem waitIdle_write_done (hr : op.readLen = 0) (hc : c ≤ (op.frame w a).length)
    (hi : s.inputs = .transport (.okCount c) :: rest) :
    waitIdle (n + 1) (s.writing v op w a) =
      some ((txReport (.okCount c) c ((s.withInputs rest).writing v op w a)).complete .none) :=
  waitIdle_of_last_step rfl (step_of_moved hi (.txDone c rfl hc hr) rfl) rfl

/-- With a read phase WAIT goes on through the write and the settle interval to the read (R41, R250). -/
theorem waitIdle_to_reading (hr : 0 < op.readLen) (hc : c ≤ (op.frame w a).length)
    (hi : s.inputs = .transport (.okCount c) :: .settleElapsed :: rest) :
    waitIdle (n + 2) (s.writing v op w a) = waitIdle n ((s.withInputs rest).reading v op w a c) := by
  have written : step (s.writing v op w a) =
      .next (enterSettle (txReport (.okCount c) c ((s.withInputs (.settleElapsed :: rest)).writing v op w a))) :=
    step_of_moved hi (.txToSettle c rfl hc hr) rfl
  rw [waitIdle_of_busy rfl written]
  exact waitIdle_of_busy rfl (step_of_moved rfl (.settleElapsed rfl) rfl)

theorem waitIdle_read_failed :
    waitIdle (n + 1) ((s.withInputs (.transport .err :: rest)).reading v op w a c) =
      some (rxErr ((s.withInputs rest).reading v op w a c)) :=
  waitIdle_of_last_step rfl (step_of_moved rfl (.rxErr rfl) rfl) rfl

theorem waitIdle_readReg_done {b0 b1 : Byte} :
    waitIdle (n + 1) ((s.withInputs (.transport (.okBytes [b0, b1]) :: rest)).reading v .readReg w a c) =
      some (readRegRx [b0, b1] ((s.withInputs rest).reading v .readReg w a c)) :=
  waitIdle_of_last_step rfl (step_of_moved rfl (.readRegRx [b0, b1] rfl rfl rfl) rfl) rfl

end

/-! ### One issue of a host sequence -/

section
variable {α : Type} {s t u : State} {i : Instr} {fuel waited : Nat} (k : RegView → HostSeq α)

/-- An issue goes on with what the registers show where WAIT ends (R190). -/
theorem HostSeq.run_issue (launched : exec i s = .next t) (idled : waitIdle fuel t = some u) :
    (HostSeq.issue [] i k).run fuel waited s = (k u.hostValue).run fuel waited u := by
  have launch : step (s.withHost [launchAccess i]) = .next t := (step_of_launch rfl).trans launched
  simp [HostSeq.run, stepsOf, launch, idled]

/-- A write of ARG before a launch is the issue from the state with that ARG. -/
theorem HostSeq.run_issue_writeArg (v : Word) :
    (HostSeq.issue [.write .arg v] i k).run fuel waited s =
      (HostSeq.issue [] i k).run fuel waited { s with arg := lowHalf v } := by
  have write : step (s.withHost [.write .arg v, launchAccess i]) =
      .next ({ s with arg := lowHalf v }.withHost [launchAccess i]) := rfl
  simp [HostSeq.run, stepsOf, write]

end

/-! ### What the host reads after an issue -/

/-- The host sees an error exactly when ERR is not NONE (R190, R210). -/
theorem hostError_hostValue_eq_none_iff (s : State) : hostError s.hostValue = none ↔ s.err = .none := by
  have field : errField s.hostValue = s.err.code := extractLsb'_status_err s
  rw [hostError, field]
  cases s.err <;> decide

theorem seqOk_hostValue (s : State) : seqOk s.hostValue = decide (s.err = .none) := by
  rw [Bool.eq_iff_iff, seqOk, Option.isNone_iff_eq_none, hostError_hostValue_eq_none_iff, decide_eq_true_iff]

/-- The low half of a zero-extended 16-bit value is the value (R60). -/
theorem lowHalf_setWidth (a : Half) : lowHalf (a.setWidth 32) = a := by
  rw [lowHalf, BitVec.extractLsb'_setWidth_of_le (by decide), BitVec.extractLsb'_eq_self]

theorem rdataField_hostValue (s : State) : rdataField s.hostValue = s.rdata := lowHalf_setWidth s.rdata

/-! ### Setters that refuse their value -/

theorem setCalibrationReference_of_refused {safety : Bool} {ppm : Int} (h : safety = false ∨ ppm < 400 ∨ 2000 < ppm) :
    ∃ r, setCalibrationReference safety ppm = .ret r ∧ r.success = false := by
  cases safety with
  | false => exact ⟨_, rfl, rfl⟩
  | true =>
    have out : ppm < Config.calMin ∨ Config.calMax < ppm := h.resolve_left nofun
    exact ⟨_, if_pos out, rfl⟩

theorem setMeasurementInterval_of_refused {sec : Int} (h : sec < 2 ∨ 1800 < sec) :
    setMeasurementInterval sec = .ret ⟨false, some .invalidArgument⟩ := if_pos h

/-- Settles O52: a refused setter is a sequence that only returns. -/
theorem refusedSettersSendNothing : Obligations.RefusedSettersSendNothing := by
  refine fun s fuel => ⟨fun safety ppm h => ?_, fun sec h => ?_⟩
  · obtain ⟨r, refused, unsuccessful⟩ := setCalibrationReference_of_refused h
    exact ⟨⟨r, s, 0⟩, by rw [refused, HostSeq.run], rfl, unsuccessful⟩
  · exact ⟨⟨_, s, 0⟩, by rw [setMeasurementInterval_of_refused h, HostSeq.run], rfl, rfl⟩

/-! ### Setters that accept their value -/

/-- A setter's command looks at ERR where the WAIT of its launch ends; the launch sees the value in ARG (R124, R190). -/
theorem sendArgument_run {s t u : State} {w a : Half} {fuel : Nat}
    (launched : exec (.sendCmdArg w) { s with arg := a } = .next t) (idled : waitIdle fuel t = some u) :
    (sendArgument w a).run fuel 0 s = some ⟨⟨decide (u.err = .none), hostError u.hostValue⟩, u, 0⟩ := by
  rw [sendArgument, HostSeq.run_issue_writeArg, lowHalf_setWidth, HostSeq.run_issue _ launched idled, HostSeq.run,
    seqOk_hostValue]

/-- In an open session a setter's command sends its frame, and an OK answer makes it a success (R124, R190). -/
theorem sendArgument_run_done {s : State} {fuel c : Nat} {rest : List Input} (w a : Half) (hp : s.phase = .idle)
    (hs : s.session = .opened) (hf : 0 < fuel) (hc : c ≤ 5) (hi : s.inputs = .transport (.okCount c) :: rest) :
    ∃ e, (sendArgument w a).run fuel 0 s = some e ∧ e.result = ⟨true, none⟩ ∧
      e.state.history = s.history ++ [⟨.busWrite (frameF5 w a), .answered (.okCount c)⟩] := by
  obtain ⟨n, rfl⟩ := Nat.exists_eq_add_of_le' hf
  have launched := exec_sendCmdArg_of_opened w (s := { s with arg := a }) hp hs
  exact ⟨_, sendArgument_run launched (waitIdle_write_done rfl hc hi),
    congrArg (SetResult.mk true) ((hostError_hostValue_eq_none_iff _).mpr rfl), rfl⟩

/-- The argument frame of a number, its two bytes high byte first (R59, R76). -/
theorem frameF5_ofNat (w : Half) (n : Nat) :
    frameF5 w (BitVec.ofNat 16 n) = [hiByte w, loByte w, BitVec.ofNat 8 (n / 256), BitVec.ofNat 8 n,
      crc8 [BitVec.ofNat 8 (n / 256), BitVec.ofNat 8 n]] := by
  have hi : hiByte (BitVec.ofNat 16 n) = BitVec.ofNat 8 (n / 256) := by
    apply BitVec.eq_of_toNat_eq
    rw [toNat_hiByte, BitVec.toNat_ofNat, BitVec.toNat_ofNat]
    omega
  have lo : loByte (BitVec.ofNat 16 n) = BitVec.ofNat 8 n := by
    apply BitVec.eq_of_toNat_eq
    rw [toNat_loByte, BitVec.toNat_ofNat, BitVec.toNat_ofNat]
    omega
  rw [frameF5, hi, lo]

theorem setCalibrationReference_of_accepted {n : Nat} (h1 : 400 ≤ n) (h2 : n ≤ 2000) :
    setCalibrationReference true n = sendArgument 0x5204#16 (BitVec.ofNat 16 n) := by
  have inRange : ¬ ((n : Int) < Config.calMin ∨ Config.calMax < (n : Int)) := by
    rw [Config.calMin, Config.calMax]; omega
  rw [setCalibrationReference, if_neg inRange, BitVec.ofInt_natCast]
  rfl

theorem setMeasurementInterval_of_accepted {n : Nat} (h1 : 2 ≤ n) (h2 : n ≤ 1800) :
    setMeasurementInterval n = sendArgument 0x4600#16 (BitVec.ofNat 16 n) := by
  have inRange : ¬ ((n : Int) < Config.intervalMin ∨ Config.intervalMax < (n : Int)) := by
    rw [Config.intervalMin, Config.intervalMax]; omega
  rw [setMeasurementInterval, if_neg inRange, BitVec.ofInt_natCast]
  rfl

/-- Settles O53: each accepted setter is the one sequence that sends an argument, and the frame's bytes are those of the value. -/
theorem acceptedSettersSendTheFrame : Obligations.AcceptedSettersSendTheFrame := by
  intro s fuel c rest hp hs hf hc hi
  have sends (w a : Half) := sendArgument_run_done w a hp hs hf hc hi
  refine ⟨fun n h1 h2 => ?_, fun n h1 h2 => ?_, ?_, ?_⟩
  · rw [setCalibrationReference_of_accepted h1 h2]
    exact frameF5_ofNat 0x5204#16 n ▸ sends 0x5204#16 (BitVec.ofNat 16 n)
  · rw [setMeasurementInterval_of_accepted h1 h2]
    exact frameF5_ofNat 0x4600#16 n ▸ sends 0x4600#16 (BitVec.ofNat 16 n)
  · have frame : frameF5 0x5306#16 1#16 = [0x53#8, 0x06#8, 0x00#8, 0x01#8, 0xB0#8] := by decide +kernel
    exact frame ▸ sends 0x5306#16 1#16
  · have frame : frameF5 0x5306#16 0#16 = [0x53#8, 0x06#8, 0x00#8, 0x00#8, 0x81#8] := by decide +kernel
    exact frame ▸ sends 0x5306#16 0#16

/-! ### isDataReady -/

/-- isDataReady looks at ERR and RDATA where the WAIT of its read ends (R191). -/
theorem isDataReady_run {s t u : State} {fuel : Nat} (launched : exec (.readReg Config.addrDataReady) s = .next t)
    (idled : waitIdle fuel t = some u) :
    isDataReady.run fuel 0 s = some ⟨decide (u.err = .none) && u.rdata == 1#16, u, 0⟩ := by
  rw [isDataReady, HostSeq.run_issue _ launched idled, HostSeq.run, seqOk_hostValue, rdataField_hostValue]

/-- Unless the session is open a bus operation ends in its launch, with an error and without bus traffic (R38). -/
theorem exec_readReg_of_not_opened {s : State} (w : Half) (hp : s.phase = .idle) (hs : s.session ≠ .opened) :
    ∃ t, exec (.readReg w) s = .next t ∧ t.phase = .idle ∧ t.err ≠ .none ∧ t.history = s.history := by
  obtain ⟨failed, closed⟩ := busOperationNeedsAnOpenSession s (.readReg w) hp (.inr ⟨w, .inl rfl⟩)
  cases h : s.session with
  | opened => exact absurd h hs
  | failed => exact ⟨_, failed h, hp, nofun, rfl⟩
  | closed => exact ⟨_, closed h, hp, nofun, rfl⟩

theorem halfOf_eq_one_iff (b0 b1 : Byte) : halfOf b0 b1 = 1#16 ↔ b0 = 0#8 ∧ b1 = 1#8 := by
  constructor
  · intro h
    exact ⟨by rw [← hiByte_halfOf b0 b1, h]; decide, by rw [← loByte_halfOf b0 b1, h]; decide⟩
  · rintro ⟨rfl, rfl⟩
    decide

/-- Settles O54: WAIT ends where the write failed, where the read ended, or at once when the launch had no open session. -/
theorem dataReadyOnlyForExactlyOne : Obligations.DataReadyOnlyForExactlyOne := by
  intro s fuel hp hf
  obtain ⟨n, rfl⟩ := Nat.exists_eq_add_of_le' hf
  have launched (hs : s.session = .opened) := exec_readReg_of_opened Config.addrDataReady hp hs
  refine ⟨fun c b0 b1 rest hs hc hi => ?_, fun c rest hs hc hi => ?_, fun rest hs hi => ?_, fun hs => ?_⟩
  · refine ⟨_, isDataReady_run (launched hs) ((waitIdle_to_reading (by decide) hc hi).trans waitIdle_readReg_done), ?_⟩
    have value : (decide (ErrCode.none = .none) && halfOf b0 b1 == 1#16) = true ↔ b0 = 0#8 ∧ b1 = 1#8 := by
      simp [halfOf_eq_one_iff]
    exact value
  · exact ⟨_, isDataReady_run (launched hs) ((waitIdle_to_reading (by decide) hc hi).trans waitIdle_read_failed), rfl⟩
  · exact ⟨_, isDataReady_run (launched hs) (waitIdle_write_failed hi), rfl⟩
  · obtain ⟨t, rejected, idle, error, history⟩ := exec_readReg_of_not_opened Config.addrDataReady hp hs
    exact ⟨_, isDataReady_run rejected (waitIdle_of_not_busy (t.busy_eq_false.mpr idle) _), by simp [error], history⟩

end Sys2Proof.Machine
end

section
/-! Proofs about exceptions: the block's whole answer to an operation word it does not know (60_exceptions.md R215). -/

namespace Sys2Proof.Machine

/-- Settles O9: the host's write is the launch of an illegal word from idle, and that launch completes at once; the session is
never looked at. -/
theorem illegalWordCompletesWithIllegalOp : Obligations.IllegalWordCompletesWithIllegalOp := by
  intro s v rest hi hp hd
  have idle : (s.withInputs rest).phase = .idle := hp
  have launched : step s = .next (((s.withInputs rest).acceptLaunch v).complete .illegalOp) :=
    (step_of_inputs hi).trans (launchWord_of_illegal idle hd)
  rw [launched, complete_acceptLaunch idle]
  rfl

end Sys2Proof.Machine
end

section
/-! Proofs about the settle interval and the reset: how the timer counts, what cannot touch it, and what a reset leaves behind
(70_reset_and_hazards.md R240, R241, R251, R252). -/

namespace Sys2Proof.Machine

/-! ### The settle timer -/

/-- The state `s` with `n` ticks left on its settle timer and `xs` as what the agents do next. -/
def State.settling (n : Nat) (xs : List Input) (s : State) : State := { s with settleTimer := some n, inputs := xs }

theorem State.eq_settling {s : State} {n : Nat} {xs : List Input} (ht : s.settleTimer = some n) (hi : s.inputs = xs) :
    s = s.settling n xs := by
  rw [State.settling, ← ht, ← hi]

/-- A run of `k` ticks takes `k` off the timer, as long as some count is left, and goes on in SETTLE. -/
theorem core_run_ticks {s : State} (hp : s.phase = .settle) {n : Nat} (hn : 0 < n) (k m : Nat) (xs : List Input) :
    core.run (k + m) (s.settling (n + k) (List.replicate k .tick ++ xs)) = core.run m (s.settling n xs) := by
  induction k with
  | zero => rw [Nat.zero_add]; rfl
  | succ k ih =>
    have counts : step (s.settling (n + (k + 1)) (List.replicate (k + 1) .tick ++ xs)) =
        .next (s.settling (n + k) (List.replicate k .tick ++ xs)) :=
      step_of_moved rfl (.tickCounts (n + (k + 1)) hp rfl (by omega)) rfl
    rw [Nat.add_right_comm, core_run_succ counts, ih]

/-- The tick that finds one count left leaves SETTLE (R252). -/
theorem step_last_tick {s : State} (hp : s.phase = .settle) (rest : List Input) :
    step (s.settling 1 (.tick :: rest)) = .next { s with phase := .rx, settleTimer := none, inputs := rest } :=
  step_of_moved rfl (.tickLeaves 1 hp rfl (Nat.le_refl 1)) rfl

/-- Settles O25: each tick but the last counts in SETTLE, and the last one leaves it. -/
theorem settleTimerCountsTicks : Obligations.SettleTimerCountsTicks := by
  intro s n rest hp ht hn hi
  have ticks (k m : Nat) (hk : k < n) :
      core.run (k + m) s = core.run m (s.settling (n - k) (List.replicate (n - k) .tick ++ rest)) := by
    have counted := core_run_ticks hp (Nat.sub_pos_of_lt hk) k m (List.replicate (n - k) .tick ++ rest)
    rwa [← List.append_assoc, List.replicate_append_replicate, Nat.add_sub_cancel' hk.le, Nat.sub_add_cancel hk.le,
      ← State.eq_settling ht hi] at counted
  refine ⟨fun k hk => ticks k 0 hk, ?_⟩
  have before_last := ticks (n - 1) 1 (Nat.sub_lt hn Nat.one_pos)
  rw [Nat.sub_add_cancel hn, Nat.sub_sub_self hn] at before_last
  exact before_last.trans (core_run_succ (step_last_tick hp rest))

/-- In SETTLE the moves of the host and the transport keep the phase, the timer, the operation in flight and the history: a launch
is dropped, and no answer is waited for (R36, R251). -/
theorem Moved.keeps_settling {s t : State} {x : Input} (h : Moved s x t) (hp : s.phase = .settle)
    (hx : x.isTimebase = false) (hr : x.isReset = false) :
    t.phase = s.phase ∧ t.settleTimer = s.settleTimer ∧ t.curOp = s.curOp ∧ t.txbuf = s.txbuf ∧ t.rxlen = s.rxlen ∧
      t.history = s.history := by
  have elsewhere {p : Phase} (hs : s.phase = p) : p = .settle := hs.symm.trans hp
  cases h with
  | read | writeArg | clearOvr | keepOvr | ignored | dropped | answerUnheard => exact ⟨rfl, rfl, rfl, rfl, rfl, rfl⟩
  | illegal _ hs | crcInit _ hs | crcFeed _ _ hs | sessionFailed _ _ hs | sessionClosed _ _ hs | alreadyOpen _ hs
  | startOpen _ hs | startReadReg _ _ hs | startSendCmd _ _ hs | startSendCmdArg _ _ hs | startReadMeas _ hs
  | openingOk hs | openingErr hs | txErr hs | txToSettle _ hs | txDone _ hs | rxErr hs | readRegRx _ hs
  | measAccepted _ hs | measRejected _ hs => cases elsewhere hs
  | settleElapsedUnheard | tickUnheard | tickCounts | tickLeaves | settleElapsed => cases hx
  | reset => cases hr

/-- Settles O26: in SETTLE no move of the host or the transport touches what the interval consists of. -/
theorem settleCannotBeCutShort : Obligations.SettleCannotBeCutShort := by
  intro s t x rest hp hi hx hr h
  rw [step_of_inputs hi] at h
  obtain ⟨hphase, keeps⟩ := (inputStep_moved h).keeps_settling hp hx hr
  exact ⟨hphase.trans hp, keeps⟩

/-! ### Right after reset -/

/-- An empty history, and no read outstanding (R240). -/
theorem reset_historyInv : State.reset.HistoryInv := by decide

/-- Settles O35: each of the three holds of the reset state, whose fields are literals. -/
theorem resetMeetsTheInvariants : Obligations.ResetMeetsTheInvariants :=
  ⟨reset_controlInv, reset_measInv, reset_historyInv⟩

/-- Every host register but CRC is 0 right after reset (R20, R240). -/
theorem hostValue_reset {r : HostReg} (h : r ≠ .crc) : State.reset.hostValue r = 0#32 := by
  cases r with
  | crc => exact absurd rfl h
  | status => decide
  | _ => rfl

/-- The host cannot tell a block that was reset from one right after reset. -/
theorem State.hostValue_resetBlock (s : State) (cut : Nat) (r : HostReg) :
    (s.resetBlock cut).hostValue r = State.reset.hostValue r := by
  cases r <;> rfl

theorem step_of_reset {s : State} {cut : Nat} {rest : List Input} (h : s.inputs = .reset cut :: rest) :
    step s = .next ((s.withInputs rest).resetBlock cut) := step_of_inputs h

/-- Settles O49: the reset input leads to a block whose registers read as they do right after reset. -/
theorem resetValues : Obligations.ResetValues := by
  intro s t cut rest hi ht
  obtain rfl | h := ht
  · exact ⟨rfl, fun r hr => hostValue_reset hr, rfl, rfl, rfl⟩
  · cases (step_of_reset hi).symm.trans h
    exact ⟨rfl, fun r hr => (State.hostValue_resetBlock _ _ _).trans (hostValue_reset hr), rfl, rfl, rfl⟩

/-! ### The abandoned transaction -/

/-- A reset abandons the outstanding request after `cut` of its bytes, or after all of them (R241). -/
theorem State.abandonedEvents_of_request {s : State} {q : BusRequest} (h : s.request = some q) (cut : Nat) :
    s.abandonedEvents cut = [⟨q, .abandoned (min cut q.size)⟩] := by
  simp [State.abandonedEvents, h]

theorem State.abandonedEvents_of_no_request {s : State} (h : s.request = none) (cut : Nat) : s.abandonedEvents cut = [] := by
  simp [State.abandonedEvents, h]

theorem State.request_of_idle_or_settle {s : State} (h : s.phase = .idle ∨ s.phase = .settle) : s.request = none := by
  obtain h | h := h <;> simp [State.request, h]

/-- Settles O50: the reset's one step adds the abandoned events to the history, and these are the outstanding request's. -/
theorem resetAbandonsTheTransaction : Obligations.ResetAbandonsTheTransaction := by
  intro s cut rest hi
  have ends {q : BusRequest} {k : Nat} (hq : s.request = some q) (hk : min cut q.size = k) :
      s.history ++ s.abandonedEvents cut = s.history ++ [⟨q, .abandoned k⟩] := by
    rw [State.abandonedEvents_of_request hq, hk]
  refine ⟨_, step_of_reset hi, rfl, rfl, rfl, rfl, fun hp hc => ?_, fun hp hc => ?_, fun hp => ?_, fun hp => ?_⟩
  · exact ends (State.request_of_tx hp) (Nat.min_eq_left hc)
  · exact ends (State.request_of_rx hp) (Nat.min_eq_left hc)
  · exact ends (State.request_of_opening hp) (Nat.min_zero cut)
  · have nothing : s.abandonedEvents cut = [] :=
      State.abandonedEvents_of_no_request (State.request_of_idle_or_settle hp) cut
    exact (congrArg (s.history ++ ·) nothing).trans (List.append_nil _)

end Sys2Proof.Machine
end
